-- ==== Sys2Proof/Word.lean ====
section
/-! DEFINITION. The two word sizes of the machine: the 8-bit data width and the 16-bit address width (R9). -/

namespace Sys2Proof

/-- An 8-bit quantity: a register, a byte of memory, the data bus (`u8` of R12). -/
abbrev Byte := BitVec 8

/-- A 16-bit quantity: an address, SP, PC, a register pair (`u16` of R12). -/
abbrev Word := BitVec 16

end Sys2Proof
end

