-- ==== Sys2Proof/Decode.lean ====
section
/-! DEFINITION. The decoder and the encoder. The decoder is written from the two grids of 30_encoding.md (R131,
R133), the encoder from the bit fields of R122 to R132; that they agree is a claim about the package. -/

namespace Sys2Proof

/-- The operation kind of each instruction: what its name says in the conventional mnemonics of R138. -/
def Instr.form : Instr → Form
  | .nop => .nop
  | .ld_bc_nn => .ldRpNn .bc
  | .ld_mbc_a => .ldBcA
  | .inc_bc => .incRp .bc
  | .inc_b => .incR .b
  | .dec_b => .decR .b
  | .ld_b_n => .ldRN .b
  | .rlca => .rlca
  | .ld_mnn_sp => .ldNnSp
  | .add_hl_bc => .addHl .bc
  | .ld_a_mbc => .ldABc
  | .dec_bc => .decRp .bc
  | .inc_c => .incR .c
  | .dec_c => .decR .c
  | .ld_c_n => .ldRN .c
  | .rrca => .rrca
  | .stop => .stop
  | .ld_de_nn => .ldRpNn .de
  | .ld_mde_a => .ldDeA
  | .inc_de => .incRp .de
  | .inc_d => .incR .d
  | .dec_d => .decR .d
  | .ld_d_n => .ldRN .d
  | .rla => .rla
  | .jr_e => .jrE
  | .add_hl_de => .addHl .de
  | .ld_a_mde => .ldADe
  | .dec_de => .decRp .de
  | .inc_e => .incR .e
  | .dec_e => .decR .e
  | .ld_e_n => .ldRN .e
  | .rra => .rra
  | .jr_nz_e => .jrCc .nz
  | .ld_hl_nn => .ldRpNn .hl
  | .ld_mhli_a => .ldHliA
  | .inc_hl => .incRp .hl
  | .inc_h => .incR .h
  | .dec_h => .decR .h
  | .ld_h_n => .ldRN .h
  | .daa => .daa
  | .jr_z_e => .jrCc .z
  | .add_hl_hl => .addHl .hl
  | .ld_a_mhli => .ldAHli
  | .dec_hl => .decRp .hl
  | .inc_l => .incR .l
  | .dec_l => .decR .l
  | .ld_l_n => .ldRN .l
  | .cpl => .cpl
  | .jr_nc_e => .jrCc .nc
  | .ld_sp_nn => .ldRpNn .sp
  | .ld_mhld_a => .ldHldA
  | .inc_sp => .incRp .sp
  | .inc_mhl => .incM
  | .dec_mhl => .decM
  | .ld_mhl_n => .ldMN
  | .scf => .scf
  | .jr_c_e => .jrCc .c
  | .add_hl_sp => .addHl .sp
  | .ld_a_mhld => .ldAHld
  | .dec_sp => .decRp .sp
  | .inc_a => .incR .a
  | .dec_a => .decR .a
  | .ld_a_n => .ldRN .a
  | .ccf => .ccf
  | .ld_b_b => .ldRR .b .b
  | .ld_b_c => .ldRR .b .c
  | .ld_b_d => .ldRR .b .d
  | .ld_b_e => .ldRR .b .e
  | .ld_b_h => .ldRR .b .h
  | .ld_b_l => .ldRR .b .l
  | .ld_b_mhl => .ldRM .b
  | .ld_b_a => .ldRR .b .a
  | .ld_c_b => .ldRR .c .b
  | .ld_c_c => .ldRR .c .c
  | .ld_c_d => .ldRR .c .d
  | .ld_c_e => .ldRR .c .e
  | .ld_c_h => .ldRR .c .h
  | .ld_c_l => .ldRR .c .l
  | .ld_c_mhl => .ldRM .c
  | .ld_c_a => .ldRR .c .a
  | .ld_d_b => .ldRR .d .b
  | .ld_d_c => .ldRR .d .c
  | .ld_d_d => .ldRR .d .d
  | .ld_d_e => .ldRR .d .e
  | .ld_d_h => .ldRR .d .h
  | .ld_d_l => .ldRR .d .l
  | .ld_d_mhl => .ldRM .d
  | .ld_d_a => .ldRR .d .a
  | .ld_e_b => .ldRR .e .b
  | .ld_e_c => .ldRR .e .c
  | .ld_e_d => .ldRR .e .d
  | .ld_e_e => .ldRR .e .e
  | .ld_e_h => .ldRR .e .h
  | .ld_e_l => .ldRR .e .l
  | .ld_e_mhl => .ldRM .e
  | .ld_e_a => .ldRR .e .a
  | .ld_h_b => .ldRR .h .b
  | .ld_h_c => .ldRR .h .c
  | .ld_h_d => .ldRR .h .d
  | .ld_h_e => .ldRR .h .e
  | .ld_h_h => .ldRR .h .h
  | .ld_h_l => .ldRR .h .l
  | .ld_h_mhl => .ldRM .h
  | .ld_h_a => .ldRR .h .a
  | .ld_l_b => .ldRR .l .b
  | .ld_l_c => .ldRR .l .c
  | .ld_l_d => .ldRR .l .d
  | .ld_l_e => .ldRR .l .e
  | .ld_l_h => .ldRR .l .h
  | .ld_l_l => .ldRR .l .l
  | .ld_l_mhl => .ldRM .l
  | .ld_l_a => .ldRR .l .a
  | .ld_mhl_b => .ldMR .b
  | .ld_mhl_c => .ldMR .c
  | .ld_mhl_d => .ldMR .d
  | .ld_mhl_e => .ldMR .e
  | .ld_mhl_h => .ldMR .h
  | .ld_mhl_l => .ldMR .l
  | .halt => .halt
  | .ld_mhl_a => .ldMR .a
  | .ld_a_b => .ldRR .a .b
  | .ld_a_c => .ldRR .a .c
  | .ld_a_d => .ldRR .a .d
  | .ld_a_e => .ldRR .a .e
  | .ld_a_h => .ldRR .a .h
  | .ld_a_l => .ldRR .a .l
  | .ld_a_mhl => .ldRM .a
  | .ld_a_a => .ldRR .a .a
  | .add_a_b => .aluR .add .b
  | .add_a_c => .aluR .add .c
  | .add_a_d => .aluR .add .d
  | .add_a_e => .aluR .add .e
  | .add_a_h => .aluR .add .h
  | .add_a_l => .aluR .add .l
  | .add_a_mhl => .aluM .add
  | .add_a_a => .aluR .add .a
  | .adc_a_b => .aluR .adc .b
  | .adc_a_c => .aluR .adc .c
  | .adc_a_d => .aluR .adc .d
  | .adc_a_e => .aluR .adc .e
  | .adc_a_h => .aluR .adc .h
  | .adc_a_l => .aluR .adc .l
  | .adc_a_mhl => .aluM .adc
  | .adc_a_a => .aluR .adc .a
  | .sub_a_b => .aluR .sub .b
  | .sub_a_c => .aluR .sub .c
  | .sub_a_d => .aluR .sub .d
  | .sub_a_e => .aluR .sub .e
  | .sub_a_h => .aluR .sub .h
  | .sub_a_l => .aluR .sub .l
  | .sub_a_mhl => .aluM .sub
  | .sub_a_a => .aluR .sub .a
  | .sbc_a_b => .aluR .sbc .b
  | .sbc_a_c => .aluR .sbc .c
  | .sbc_a_d => .aluR .sbc .d
  | .sbc_a_e => .aluR .sbc .e
  | .sbc_a_h => .aluR .sbc .h
  | .sbc_a_l => .aluR .sbc .l
  | .sbc_a_mhl => .aluM .sbc
  | .sbc_a_a => .aluR .sbc .a
  | .and_a_b => .aluR .and .b
  | .and_a_c => .aluR .and .c
  | .and_a_d => .aluR .and .d
  | .and_a_e => .aluR .and .e
  | .and_a_h => .aluR .and .h
  | .and_a_l => .aluR .and .l
  | .and_a_mhl => .aluM .and
  | .and_a_a => .aluR .and .a
  | .xor_a_b => .aluR .xor .b
  | .xor_a_c => .aluR .xor .c
  | .xor_a_d => .aluR .xor .d
  | .xor_a_e => .aluR .xor .e
  | .xor_a_h => .aluR .xor .h
  | .xor_a_l => .aluR .xor .l
  | .xor_a_mhl => .aluM .xor
  | .xor_a_a => .aluR .xor .a
  | .or_a_b => .aluR .or .b
  | .or_a_c => .aluR .or .c
  | .or_a_d => .aluR .or .d
  | .or_a_e => .aluR .or .e
  | .or_a_h => .aluR .or .h
  | .or_a_l => .aluR .or .l
  | .or_a_mhl => .aluM .or
  | .or_a_a => .aluR .or .a
  | .cp_a_b => .aluR .cp .b
  | .cp_a_c => .aluR .cp .c
  | .cp_a_d => .aluR .cp .d
  | .cp_a_e => .aluR .cp .e
  | .cp_a_h => .aluR .cp .h
  | .cp_a_l => .aluR .cp .l
  | .cp_a_mhl => .aluM .cp
  | .cp_a_a => .aluR .cp .a
  | .ret_nz => .retCc .nz
  | .pop_bc => .pop .bc
  | .jp_nz_nn => .jpCc .nz
  | .jp_nn => .jpNn
  | .call_nz_nn => .callCc .nz
  | .push_bc => .push .bc
  | .add_a_n => .aluN .add
  | .rst_00h => .rst 0
  | .ret_z => .retCc .z
  | .ret => .ret
  | .jp_z_nn => .jpCc .z
  | .call_z_nn => .callCc .z
  | .call_nn => .callNn
  | .adc_a_n => .aluN .adc
  | .rst_08h => .rst 1
  | .ret_nc => .retCc .nc
  | .pop_de => .pop .de
  | .jp_nc_nn => .jpCc .nc
  | .illegal_d3 => .illegal 0xD3
  | .call_nc_nn => .callCc .nc
  | .push_de => .push .de
  | .sub_a_n => .aluN .sub
  | .rst_10h => .rst 2
  | .ret_c => .retCc .c
  | .reti => .reti
  | .jp_c_nn => .jpCc .c
  | .illegal_db => .illegal 0xDB
  | .call_c_nn => .callCc .c
  | .illegal_dd => .illegal 0xDD
  | .sbc_a_n => .aluN .sbc
  | .rst_18h => .rst 3
  | .ldh_mn_a => .ldhNA
  | .pop_hl => .pop .hl
  | .ldh_mc_a => .ldhCA
  | .illegal_e3 => .illegal 0xE3
  | .illegal_e4 => .illegal 0xE4
  | .push_hl => .push .hl
  | .and_a_n => .aluN .and
  | .rst_20h => .rst 4
  | .add_sp_e => .addSpE
  | .jp_hl => .jpHl
  | .ld_mnn_a => .ldNnA
  | .illegal_eb => .illegal 0xEB
  | .illegal_ec => .illegal 0xEC
  | .illegal_ed => .illegal 0xED
  | .xor_a_n => .aluN .xor
  | .rst_28h => .rst 5
  | .ldh_a_mn => .ldhAN
  | .pop_af => .pop .af
  | .ldh_a_mc => .ldhAC
  | .di => .di
  | .illegal_f4 => .illegal 0xF4
  | .push_af => .push .af
  | .or_a_n => .aluN .or
  | .rst_30h => .rst 6
  | .ld_hl_spe => .ldHlSpE
  | .ld_sp_hl => .ldSpHl
  | .ld_a_mnn => .ldANn
  | .ei => .ei
  | .illegal_fc => .illegal 0xFC
  | .illegal_fd => .illegal 0xFD
  | .cp_a_n => .aluN .cp
  | .rst_38h => .rst 7
  | .rlc_b => .rotR .rlc .b
  | .rlc_c => .rotR .rlc .c
  | .rlc_d => .rotR .rlc .d
  | .rlc_e => .rotR .rlc .e
  | .rlc_h => .rotR .rlc .h
  | .rlc_l => .rotR .rlc .l
  | .rlc_mhl => .rotM .rlc
  | .rlc_a => .rotR .rlc .a
  | .rrc_b => .rotR .rrc .b
  | .rrc_c => .rotR .rrc .c
  | .rrc_d => .rotR .rrc .d
  | .rrc_e => .rotR .rrc .e
  | .rrc_h => .rotR .rrc .h
  | .rrc_l => .rotR .rrc .l
  | .rrc_mhl => .rotM .rrc
  | .rrc_a => .rotR .rrc .a
  | .rl_b => .rotR .rl .b
  | .rl_c => .rotR .rl .c
  | .rl_d => .rotR .rl .d
  | .rl_e => .rotR .rl .e
  | .rl_h => .rotR .rl .h
  | .rl_l => .rotR .rl .l
  | .rl_mhl => .rotM .rl
  | .rl_a => .rotR .rl .a
  | .rr_b => .rotR .rr .b
  | .rr_c => .rotR .rr .c
  | .rr_d => .rotR .rr .d
  | .rr_e => .rotR .rr .e
  | .rr_h => .rotR .rr .h
  | .rr_l => .rotR .rr .l
  | .rr_mhl => .rotM .rr
  | .rr_a => .rotR .rr .a
  | .sla_b => .rotR .sla .b
  | .sla_c => .rotR .sla .c
  | .sla_d => .rotR .sla .d
  | .sla_e => .rotR .sla .e
  | .sla_h => .rotR .sla .h
  | .sla_l => .rotR .sla .l
  | .sla_mhl => .rotM .sla
  | .sla_a => .rotR .sla .a
  | .sra_b => .rotR .sra .b
  | .sra_c => .rotR .sra .c
  | .sra_d => .rotR .sra .d
  | .sra_e => .rotR .sra .e
  | .sra_h => .rotR .sra .h
  | .sra_l => .rotR .sra .l
  | .sra_mhl => .rotM .sra
  | .sra_a => .rotR .sra .a
  | .swap_b => .rotR .swap .b
  | .swap_c => .rotR .swap .c
  | .swap_d => .rotR .swap .d
  | .swap_e => .rotR .swap .e
  | .swap_h => .rotR .swap .h
  | .swap_l => .rotR .swap .l
  | .swap_mhl => .rotM .swap
  | .swap_a => .rotR .swap .a
  | .srl_b => .rotR .srl .b
  | .srl_c => .rotR .srl .c
  | .srl_d => .rotR .srl .d
  | .srl_e => .rotR .srl .e
  | .srl_h => .rotR .srl .h
  | .srl_l => .rotR .srl .l
  | .srl_mhl => .rotM .srl
  | .srl_a => .rotR .srl .a
  | .bit_0_b => .bitR 0 .b
  | .bit_0_c => .bitR 0 .c
  | .bit_0_d => .bitR 0 .d
  | .bit_0_e => .bitR 0 .e
  | .bit_0_h => .bitR 0 .h
  | .bit_0_l => .bitR 0 .l
  | .bit_0_mhl => .bitM 0
  | .bit_0_a => .bitR 0 .a
  | .bit_1_b => .bitR 1 .b
  | .bit_1_c => .bitR 1 .c
  | .bit_1_d => .bitR 1 .d
  | .bit_1_e => .bitR 1 .e
  | .bit_1_h => .bitR 1 .h
  | .bit_1_l => .bitR 1 .l
  | .bit_1_mhl => .bitM 1
  | .bit_1_a => .bitR 1 .a
  | .bit_2_b => .bitR 2 .b
  | .bit_2_c => .bitR 2 .c
  | .bit_2_d => .bitR 2 .d
  | .bit_2_e => .bitR 2 .e
  | .bit_2_h => .bitR 2 .h
  | .bit_2_l => .bitR 2 .l
  | .bit_2_mhl => .bitM 2
  | .bit_2_a => .bitR 2 .a
  | .bit_3_b => .bitR 3 .b
  | .bit_3_c => .bitR 3 .c
  | .bit_3_d => .bitR 3 .d
  | .bit_3_e => .bitR 3 .e
  | .bit_3_h => .bitR 3 .h
  | .bit_3_l => .bitR 3 .l
  | .bit_3_mhl => .bitM 3
  | .bit_3_a => .bitR 3 .a
  | .bit_4_b => .bitR 4 .b
  | .bit_4_c => .bitR 4 .c
  | .bit_4_d => .bitR 4 .d
  | .bit_4_e => .bitR 4 .e
  | .bit_4_h => .bitR 4 .h
  | .bit_4_l => .bitR 4 .l
  | .bit_4_mhl => .bitM 4
  | .bit_4_a => .bitR 4 .a
  | .bit_5_b => .bitR 5 .b
  | .bit_5_c => .bitR 5 .c
  | .bit_5_d => .bitR 5 .d
  | .bit_5_e => .bitR 5 .e
  | .bit_5_h => .bitR 5 .h
  | .bit_5_l => .bitR 5 .l
  | .bit_5_mhl => .bitM 5
  | .bit_5_a => .bitR 5 .a
  | .bit_6_b => .bitR 6 .b
  | .bit_6_c => .bitR 6 .c
  | .bit_6_d => .bitR 6 .d
  | .bit_6_e => .bitR 6 .e
  | .bit_6_h => .bitR 6 .h
  | .bit_6_l => .bitR 6 .l
  | .bit_6_mhl => .bitM 6
  | .bit_6_a => .bitR 6 .a
  | .bit_7_b => .bitR 7 .b
  | .bit_7_c => .bitR 7 .c
  | .bit_7_d => .bitR 7 .d
  | .bit_7_e => .bitR 7 .e
  | .bit_7_h => .bitR 7 .h
  | .bit_7_l => .bitR 7 .l
  | .bit_7_mhl => .bitM 7
  | .bit_7_a => .bitR 7 .a
  | .res_0_b => .resR 0 .b
  | .res_0_c => .resR 0 .c
  | .res_0_d => .resR 0 .d
  | .res_0_e => .resR 0 .e
  | .res_0_h => .resR 0 .h
  | .res_0_l => .resR 0 .l
  | .res_0_mhl => .resM 0
  | .res_0_a => .resR 0 .a
  | .res_1_b => .resR 1 .b
  | .res_1_c => .resR 1 .c
  | .res_1_d => .resR 1 .d
  | .res_1_e => .resR 1 .e
  | .res_1_h => .resR 1 .h
  | .res_1_l => .resR 1 .l
  | .res_1_mhl => .resM 1
  | .res_1_a => .resR 1 .a
  | .res_2_b => .resR 2 .b
  | .res_2_c => .resR 2 .c
  | .res_2_d => .resR 2 .d
  | .res_2_e => .resR 2 .e
  | .res_2_h => .resR 2 .h
  | .res_2_l => .resR 2 .l
  | .res_2_mhl => .resM 2
  | .res_2_a => .resR 2 .a
  | .res_3_b => .resR 3 .b
  | .res_3_c => .resR 3 .c
  | .res_3_d => .resR 3 .d
  | .res_3_e => .resR 3 .e
  | .res_3_h => .resR 3 .h
  | .res_3_l => .resR 3 .l
  | .res_3_mhl => .resM 3
  | .res_3_a => .resR 3 .a
  | .res_4_b => .resR 4 .b
  | .res_4_c => .resR 4 .c
  | .res_4_d => .resR 4 .d
  | .res_4_e => .resR 4 .e
  | .res_4_h => .resR 4 .h
  | .res_4_l => .resR 4 .l
  | .res_4_mhl => .resM 4
  | .res_4_a => .resR 4 .a
  | .res_5_b => .resR 5 .b
  | .res_5_c => .resR 5 .c
  | .res_5_d => .resR 5 .d
  | .res_5_e => .resR 5 .e
  | .res_5_h => .resR 5 .h
  | .res_5_l => .resR 5 .l
  | .res_5_mhl => .resM 5
  | .res_5_a => .resR 5 .a
  | .res_6_b => .resR 6 .b
  | .res_6_c => .resR 6 .c
  | .res_6_d => .resR 6 .d
  | .res_6_e => .resR 6 .e
  | .res_6_h => .resR 6 .h
  | .res_6_l => .resR 6 .l
  | .res_6_mhl => .resM 6
  | .res_6_a => .resR 6 .a
  | .res_7_b => .resR 7 .b
  | .res_7_c => .resR 7 .c
  | .res_7_d => .resR 7 .d
  | .res_7_e => .resR 7 .e
  | .res_7_h => .resR 7 .h
  | .res_7_l => .resR 7 .l
  | .res_7_mhl => .resM 7
  | .res_7_a => .resR 7 .a
  | .set_0_b => .setR 0 .b
  | .set_0_c => .setR 0 .c
  | .set_0_d => .setR 0 .d
  | .set_0_e => .setR 0 .e
  | .set_0_h => .setR 0 .h
  | .set_0_l => .setR 0 .l
  | .set_0_mhl => .setM 0
  | .set_0_a => .setR 0 .a
  | .set_1_b => .setR 1 .b
  | .set_1_c => .setR 1 .c
  | .set_1_d => .setR 1 .d
  | .set_1_e => .setR 1 .e
  | .set_1_h => .setR 1 .h
  | .set_1_l => .setR 1 .l
  | .set_1_mhl => .setM 1
  | .set_1_a => .setR 1 .a
  | .set_2_b => .setR 2 .b
  | .set_2_c => .setR 2 .c
  | .set_2_d => .setR 2 .d
  | .set_2_e => .setR 2 .e
  | .set_2_h => .setR 2 .h
  | .set_2_l => .setR 2 .l
  | .set_2_mhl => .setM 2
  | .set_2_a => .setR 2 .a
  | .set_3_b => .setR 3 .b
  | .set_3_c => .setR 3 .c
  | .set_3_d => .setR 3 .d
  | .set_3_e => .setR 3 .e
  | .set_3_h => .setR 3 .h
  | .set_3_l => .setR 3 .l
  | .set_3_mhl => .setM 3
  | .set_3_a => .setR 3 .a
  | .set_4_b => .setR 4 .b
  | .set_4_c => .setR 4 .c
  | .set_4_d => .setR 4 .d
  | .set_4_e => .setR 4 .e
  | .set_4_h => .setR 4 .h
  | .set_4_l => .setR 4 .l
  | .set_4_mhl => .setM 4
  | .set_4_a => .setR 4 .a
  | .set_5_b => .setR 5 .b
  | .set_5_c => .setR 5 .c
  | .set_5_d => .setR 5 .d
  | .set_5_e => .setR 5 .e
  | .set_5_h => .setR 5 .h
  | .set_5_l => .setR 5 .l
  | .set_5_mhl => .setM 5
  | .set_5_a => .setR 5 .a
  | .set_6_b => .setR 6 .b
  | .set_6_c => .setR 6 .c
  | .set_6_d => .setR 6 .d
  | .set_6_e => .setR 6 .e
  | .set_6_h => .setR 6 .h
  | .set_6_l => .setR 6 .l
  | .set_6_mhl => .setM 6
  | .set_6_a => .setR 6 .a
  | .set_7_b => .setR 7 .b
  | .set_7_c => .setR 7 .c
  | .set_7_d => .setR 7 .d
  | .set_7_e => .setR 7 .e
  | .set_7_h => .setR 7 .h
  | .set_7_l => .setR 7 .l
  | .set_7_mhl => .setM 7
  | .set_7_a => .setR 7 .a

/-- The number of bytes that follow the opcode, by the formats of R121 (F1 none, F2 and F3 one, F4 two; the second
byte of F5 is part of the opcode). STOP has format F2 although its second byte is never consumed (R121). -/
def Form.operandBytes : Form → Nat
  | .ldRN _ | .ldMN | .ldhAN | .ldhNA | .ldHlSpE | .aluN _ | .addSpE | .jrE | .jrCc _ | .stop => 1
  | .ldANn | .ldNnA | .ldRpNn _ | .ldNnSp | .jpNn | .jpCc _ | .callNn | .callCc _ => 2
  | _ => 0

/-- The number of operand bytes of an instruction (R121). -/
def Instr.operandBytes (i : Instr) : Nat := i.form.operandBytes

/-- Whether an instruction stands in the 0xCB table (R132). -/
def Form.prefixed : Form → Bool
  | .rotR _ _ | .rotM _ | .bitR _ _ | .bitM _ | .resR _ _ | .resM _ | .setR _ _ | .setM _ => true
  | _ => false

/-- The 11 primary bytes with no assigned operation (R134). -/
def illegalBytes : List Byte := [0xD3, 0xDB, 0xDD, 0xE3, 0xE4, 0xEB, 0xEC, 0xED, 0xF4, 0xFC, 0xFD]

/-- What one opcode byte decodes to (R137): an instruction, an illegal byte's row among them, or the prefix marker. -/
inductive Decoded where
  | instr (i : Instr)
  | cbPrefix
  deriving DecidableEq, Repr

/-! ### The decoder: the grids of R131 and R133, one list a row of the grid -/

/-- Row 0x of the primary grid (R131). -/
def primaryRow0 : List Decoded :=
  [.instr .nop, .instr .ld_bc_nn, .instr .ld_mbc_a, .instr .inc_bc, .instr .inc_b, .instr .dec_b, .instr .ld_b_n,
   .instr .rlca, .instr .ld_mnn_sp, .instr .add_hl_bc, .instr .ld_a_mbc, .instr .dec_bc, .instr .inc_c,
   .instr .dec_c, .instr .ld_c_n, .instr .rrca]

/-- Row 1x of the primary grid (R131). -/
def primaryRow1 : List Decoded :=
  [.instr .stop, .instr .ld_de_nn, .instr .ld_mde_a, .instr .inc_de, .instr .inc_d, .instr .dec_d, .instr .ld_d_n,
   .instr .rla, .instr .jr_e, .instr .add_hl_de, .instr .ld_a_mde, .instr .dec_de, .instr .inc_e, .instr .dec_e,
   .instr .ld_e_n, .instr .rra]

/-- Row 2x of the primary grid (R131). -/
def primaryRow2 : List Decoded :=
  [.instr .jr_nz_e, .instr .ld_hl_nn, .instr .ld_mhli_a, .instr .inc_hl, .instr .inc_h, .instr .dec_h,
   .instr .ld_h_n, .instr .daa, .instr .jr_z_e, .instr .add_hl_hl, .instr .ld_a_mhli, .instr .dec_hl,
   .instr .inc_l, .instr .dec_l, .instr .ld_l_n, .instr .cpl]

/-- Row 3x of the primary grid (R131). -/
def primaryRow3 : List Decoded :=
  [.instr .jr_nc_e, .instr .ld_sp_nn, .instr .ld_mhld_a, .instr .inc_sp, .instr .inc_mhl, .instr .dec_mhl,
   .instr .ld_mhl_n, .instr .scf, .instr .jr_c_e, .instr .add_hl_sp, .instr .ld_a_mhld, .instr .dec_sp,
   .instr .inc_a, .instr .dec_a, .instr .ld_a_n, .instr .ccf]

/-- Row 4x of the primary grid (R131). -/
def primaryRow4 : List Decoded :=
  [.instr .ld_b_b, .instr .ld_b_c, .instr .ld_b_d, .instr .ld_b_e, .instr .ld_b_h, .instr .ld_b_l,
   .instr .ld_b_mhl, .instr .ld_b_a, .instr .ld_c_b, .instr .ld_c_c, .instr .ld_c_d, .instr .ld_c_e,
   .instr .ld_c_h, .instr .ld_c_l, .instr .ld_c_mhl, .instr .ld_c_a]

/-- Row 5x of the primary grid (R131). -/
def primaryRow5 : List Decoded :=
  [.instr .ld_d_b, .instr .ld_d_c, .instr .ld_d_d, .instr .ld_d_e, .instr .ld_d_h, .instr .ld_d_l,
   .instr .ld_d_mhl, .instr .ld_d_a, .instr .ld_e_b, .instr .ld_e_c, .instr .ld_e_d, .instr .ld_e_e,
   .instr .ld_e_h, .instr .ld_e_l, .instr .ld_e_mhl, .instr .ld_e_a]

/-- Row 6x of the primary grid (R131). -/
def primaryRow6 : List Decoded :=
  [.instr .ld_h_b, .instr .ld_h_c, .instr .ld_h_d, .instr .ld_h_e, .instr .ld_h_h, .instr .ld_h_l,
   .instr .ld_h_mhl, .instr .ld_h_a, .instr .ld_l_b, .instr .ld_l_c, .instr .ld_l_d, .instr .ld_l_e,
   .instr .ld_l_h, .instr .ld_l_l, .instr .ld_l_mhl, .instr .ld_l_a]

/-- Row 7x of the primary grid (R131). -/
def primaryRow7 : List Decoded :=
  [.instr .ld_mhl_b, .instr .ld_mhl_c, .instr .ld_mhl_d, .instr .ld_mhl_e, .instr .ld_mhl_h, .instr .ld_mhl_l,
   .instr .halt, .instr .ld_mhl_a, .instr .ld_a_b, .instr .ld_a_c, .instr .ld_a_d, .instr .ld_a_e, .instr .ld_a_h,
   .instr .ld_a_l, .instr .ld_a_mhl, .instr .ld_a_a]

/-- Row 8x of the primary grid (R131). -/
def primaryRow8 : List Decoded :=
  [.instr .add_a_b, .instr .add_a_c, .instr .add_a_d, .instr .add_a_e, .instr .add_a_h, .instr .add_a_l,
   .instr .add_a_mhl, .instr .add_a_a, .instr .adc_a_b, .instr .adc_a_c, .instr .adc_a_d, .instr .adc_a_e,
   .instr .adc_a_h, .instr .adc_a_l, .instr .adc_a_mhl, .instr .adc_a_a]

/-- Row 9x of the primary grid (R131). -/
def primaryRow9 : List Decoded :=
  [.instr .sub_a_b, .instr .sub_a_c, .instr .sub_a_d, .instr .sub_a_e, .instr .sub_a_h, .instr .sub_a_l,
   .instr .sub_a_mhl, .instr .sub_a_a, .instr .sbc_a_b, .instr .sbc_a_c, .instr .sbc_a_d, .instr .sbc_a_e,
   .instr .sbc_a_h, .instr .sbc_a_l, .instr .sbc_a_mhl, .instr .sbc_a_a]

/-- Row Ax of the primary grid (R131). -/
def primaryRowA : List Decoded :=
  [.instr .and_a_b, .instr .and_a_c, .instr .and_a_d, .instr .and_a_e, .instr .and_a_h, .instr .and_a_l,
   .instr .and_a_mhl, .instr .and_a_a, .instr .xor_a_b, .instr .xor_a_c, .instr .xor_a_d, .instr .xor_a_e,
   .instr .xor_a_h, .instr .xor_a_l, .instr .xor_a_mhl, .instr .xor_a_a]

/-- Row Bx of the primary grid (R131). -/
def primaryRowB : List Decoded :=
  [.instr .or_a_b, .instr .or_a_c, .instr .or_a_d, .instr .or_a_e, .instr .or_a_h, .instr .or_a_l,
   .instr .or_a_mhl, .instr .or_a_a, .instr .cp_a_b, .instr .cp_a_c, .instr .cp_a_d, .instr .cp_a_e,
   .instr .cp_a_h, .instr .cp_a_l, .instr .cp_a_mhl, .instr .cp_a_a]

/-- Row Cx of the primary grid (R131). -/
def primaryRowC : List Decoded :=
  [.instr .ret_nz, .instr .pop_bc, .instr .jp_nz_nn, .instr .jp_nn, .instr .call_nz_nn, .instr .push_bc,
   .instr .add_a_n, .instr .rst_00h, .instr .ret_z, .instr .ret, .instr .jp_z_nn, .cbPrefix, .instr .call_z_nn,
   .instr .call_nn, .instr .adc_a_n, .instr .rst_08h]

/-- Row Dx of the primary grid (R131). -/
def primaryRowD : List Decoded :=
  [.instr .ret_nc, .instr .pop_de, .instr .jp_nc_nn, .instr .illegal_d3, .instr .call_nc_nn, .instr .push_de,
   .instr .sub_a_n, .instr .rst_10h, .instr .ret_c, .instr .reti, .instr .jp_c_nn, .instr .illegal_db,
   .instr .call_c_nn, .instr .illegal_dd, .instr .sbc_a_n, .instr .rst_18h]

/-- Row Ex of the primary grid (R131). -/
def primaryRowE : List Decoded :=
  [.instr .ldh_mn_a, .instr .pop_hl, .instr .ldh_mc_a, .instr .illegal_e3, .instr .illegal_e4, .instr .push_hl,
   .instr .and_a_n, .instr .rst_20h, .instr .add_sp_e, .instr .jp_hl, .instr .ld_mnn_a, .instr .illegal_eb,
   .instr .illegal_ec, .instr .illegal_ed, .instr .xor_a_n, .instr .rst_28h]

/-- Row Fx of the primary grid (R131). -/
def primaryRowF : List Decoded :=
  [.instr .ldh_a_mn, .instr .pop_af, .instr .ldh_a_mc, .instr .di, .instr .illegal_f4, .instr .push_af,
   .instr .or_a_n, .instr .rst_30h, .instr .ld_hl_spe, .instr .ld_sp_hl, .instr .ld_a_mnn, .instr .ei,
   .instr .illegal_fc, .instr .illegal_fd, .instr .cp_a_n, .instr .rst_38h]

/-- Row 0x of the 0xCB grid (R133). -/
def cbRow0 : List Instr :=
  [.rlc_b, .rlc_c, .rlc_d, .rlc_e, .rlc_h, .rlc_l, .rlc_mhl, .rlc_a, .rrc_b, .rrc_c, .rrc_d, .rrc_e, .rrc_h,
   .rrc_l, .rrc_mhl, .rrc_a]

/-- Row 1x of the 0xCB grid (R133). -/
def cbRow1 : List Instr :=
  [.rl_b, .rl_c, .rl_d, .rl_e, .rl_h, .rl_l, .rl_mhl, .rl_a, .rr_b, .rr_c, .rr_d, .rr_e, .rr_h, .rr_l, .rr_mhl,
   .rr_a]

/-- Row 2x of the 0xCB grid (R133). -/
def cbRow2 : List Instr :=
  [.sla_b, .sla_c, .sla_d, .sla_e, .sla_h, .sla_l, .sla_mhl, .sla_a, .sra_b, .sra_c, .sra_d, .sra_e, .sra_h,
   .sra_l, .sra_mhl, .sra_a]

/-- Row 3x of the 0xCB grid (R133). -/
def cbRow3 : List Instr :=
  [.swap_b, .swap_c, .swap_d, .swap_e, .swap_h, .swap_l, .swap_mhl, .swap_a, .srl_b, .srl_c, .srl_d, .srl_e,
   .srl_h, .srl_l, .srl_mhl, .srl_a]

/-- Row 4x of the 0xCB grid (R133). -/
def cbRow4 : List Instr :=
  [.bit_0_b, .bit_0_c, .bit_0_d, .bit_0_e, .bit_0_h, .bit_0_l, .bit_0_mhl, .bit_0_a, .bit_1_b, .bit_1_c, .bit_1_d,
   .bit_1_e, .bit_1_h, .bit_1_l, .bit_1_mhl, .bit_1_a]

/-- Row 5x of the 0xCB grid (R133). -/
def cbRow5 : List Instr :=
  [.bit_2_b, .bit_2_c, .bit_2_d, .bit_2_e, .bit_2_h, .bit_2_l, .bit_2_mhl, .bit_2_a, .bit_3_b, .bit_3_c, .bit_3_d,
   .bit_3_e, .bit_3_h, .bit_3_l, .bit_3_mhl, .bit_3_a]

/-- Row 6x of the 0xCB grid (R133). -/
def cbRow6 : List Instr :=
  [.bit_4_b, .bit_4_c, .bit_4_d, .bit_4_e, .bit_4_h, .bit_4_l, .bit_4_mhl, .bit_4_a, .bit_5_b, .bit_5_c, .bit_5_d,
   .bit_5_e, .bit_5_h, .bit_5_l, .bit_5_mhl, .bit_5_a]

/-- Row 7x of the 0xCB grid (R133). -/
def cbRow7 : List Instr :=
  [.bit_6_b, .bit_6_c, .bit_6_d, .bit_6_e, .bit_6_h, .bit_6_l, .bit_6_mhl, .bit_6_a, .bit_7_b, .bit_7_c, .bit_7_d,
   .bit_7_e, .bit_7_h, .bit_7_l, .bit_7_mhl, .bit_7_a]

/-- Row 8x of the 0xCB grid (R133). -/
def cbRow8 : List Instr :=
  [.res_0_b, .res_0_c, .res_0_d, .res_0_e, .res_0_h, .res_0_l, .res_0_mhl, .res_0_a, .res_1_b, .res_1_c, .res_1_d,
   .res_1_e, .res_1_h, .res_1_l, .res_1_mhl, .res_1_a]

/-- Row 9x of the 0xCB grid (R133). -/
def cbRow9 : List Instr :=
  [.res_2_b, .res_2_c, .res_2_d, .res_2_e, .res_2_h, .res_2_l, .res_2_mhl, .res_2_a, .res_3_b, .res_3_c, .res_3_d,
   .res_3_e, .res_3_h, .res_3_l, .res_3_mhl, .res_3_a]

/-- Row Ax of the 0xCB grid (R133). -/
def cbRowA : List Instr :=
  [.res_4_b, .res_4_c, .res_4_d, .res_4_e, .res_4_h, .res_4_l, .res_4_mhl, .res_4_a, .res_5_b, .res_5_c, .res_5_d,
   .res_5_e, .res_5_h, .res_5_l, .res_5_mhl, .res_5_a]

/-- Row Bx of the 0xCB grid (R133). -/
def cbRowB : List Instr :=
  [.res_6_b, .res_6_c, .res_6_d, .res_6_e, .res_6_h, .res_6_l, .res_6_mhl, .res_6_a, .res_7_b, .res_7_c, .res_7_d,
   .res_7_e, .res_7_h, .res_7_l, .res_7_mhl, .res_7_a]

/-- Row Cx of the 0xCB grid (R133). -/
def cbRowC : List Instr :=
  [.set_0_b, .set_0_c, .set_0_d, .set_0_e, .set_0_h, .set_0_l, .set_0_mhl, .set_0_a, .set_1_b, .set_1_c, .set_1_d,
   .set_1_e, .set_1_h, .set_1_l, .set_1_mhl, .set_1_a]

/-- Row Dx of the 0xCB grid (R133). -/
def cbRowD : List Instr :=
  [.set_2_b, .set_2_c, .set_2_d, .set_2_e, .set_2_h, .set_2_l, .set_2_mhl, .set_2_a, .set_3_b, .set_3_c, .set_3_d,
   .set_3_e, .set_3_h, .set_3_l, .set_3_mhl, .set_3_a]

/-- Row Ex of the 0xCB grid (R133). -/
def cbRowE : List Instr :=
  [.set_4_b, .set_4_c, .set_4_d, .set_4_e, .set_4_h, .set_4_l, .set_4_mhl, .set_4_a, .set_5_b, .set_5_c, .set_5_d,
   .set_5_e, .set_5_h, .set_5_l, .set_5_mhl, .set_5_a]

/-- Row Fx of the 0xCB grid (R133). -/
def cbRowF : List Instr :=
  [.set_6_b, .set_6_c, .set_6_d, .set_6_e, .set_6_h, .set_6_l, .set_6_mhl, .set_6_a, .set_7_b, .set_7_c, .set_7_d,
   .set_7_e, .set_7_h, .set_7_l, .set_7_mhl, .set_7_a]

/-- The row of the primary grid for the high nibble of an opcode (R131). -/
def primaryRow : Nat → List Decoded
  | 0 => primaryRow0
  | 1 => primaryRow1
  | 2 => primaryRow2
  | 3 => primaryRow3
  | 4 => primaryRow4
  | 5 => primaryRow5
  | 6 => primaryRow6
  | 7 => primaryRow7
  | 8 => primaryRow8
  | 9 => primaryRow9
  | 10 => primaryRowA
  | 11 => primaryRowB
  | 12 => primaryRowC
  | 13 => primaryRowD
  | 14 => primaryRowE
  | _ => primaryRowF

/-- The row of the 0xCB grid for the high nibble of the second byte (R133). -/
def cbRow : Nat → List Instr
  | 0 => cbRow0
  | 1 => cbRow1
  | 2 => cbRow2
  | 3 => cbRow3
  | 4 => cbRow4
  | 5 => cbRow5
  | 6 => cbRow6
  | 7 => cbRow7
  | 8 => cbRow8
  | 9 => cbRow9
  | 10 => cbRowA
  | 11 => cbRowB
  | 12 => cbRowC
  | 13 => cbRowD
  | 14 => cbRowE
  | _ => cbRowF

/-- The primary decoder: total, and a function of the byte alone (R137, R167). Every row has 16 entries, so the
default is never taken. -/
def decodePrimary (op : Byte) : Decoded := (primaryRow (op.toNat / 16)).getD (op.toNat % 16) .cbPrefix

/-- The decoder of the byte after 0xCB: all 256 values are instructions (R132, R137). -/
def decodeCb (op2 : Byte) : Instr := (cbRow (op2.toNat / 16)).getD (op2.toNat % 16) .nop

/-- `decode(byte, prefixed)` of R137 and R167. -/
def decodeByte (op : Byte) (prefixed : Bool) : Decoded := if prefixed then .instr (decodeCb op) else decodePrimary op

/-- Why a byte string holds no whole instruction. -/
inductive DecodeError where
  | noBytes
  | prefixAlone
  | operandsMissing (i : Instr)
  deriving DecidableEq, Repr

/-- The answer of the decoder on a byte string: an instruction with the bytes left over, or a rejection by name. -/
inductive DecodeResult where
  | ok (x : Insn) (rest : List Byte)
  | rejected (e : DecodeError)
  deriving DecidableEq, Repr

/-- Takes the operand bytes of an instruction off the byte string (R123). -/
def decodeOperands (i : Instr) (bs : List Byte) : DecodeResult :=
  if bs.length < i.operandBytes then .rejected (.operandsMissing i)
  else .ok ⟨i, bs.take i.operandBytes⟩ (bs.drop i.operandBytes)

/-- Decodes the instruction at the start of a byte string, in fetch order (R120, R135). -/
def decodeBytes : List Byte → DecodeResult
  | [] => .rejected .noBytes
  | op :: bs =>
    match decodePrimary op with
    | .instr i => decodeOperands i bs
    | .cbPrefix =>
      match bs with
      | [] => .rejected .prefixAlone
      | op2 :: bs' => decodeOperands (decodeCb op2) bs'

/-- The longest instruction is 3 bytes (R120). -/
def maxInsnBytes : Nat := 3

/-- The bytes, in fetch order, of an instruction whose bits are `w`, numbered as spec/opcode_table.json numbers them:
byte 0 in bits 7:0 and so on, every bit from `nbits` up 0. A CB row's `match` is `0xCB00 | op2`, "its two bytes in
fetch order" (R122), so a 16-bit number with 0xCB on top is the prefix and then its second byte. Log 10. -/
def tableBytes (nbits w : Nat) : List Byte :=
  let v := w % 2 ^ nbits
  if nbits = 16 ∧ v / 256 = 0xCB then [0xCB, BitVec.ofNat 8 (v % 256), 0x00]
  else [BitVec.ofNat 8 v, BitVec.ofNat 8 (v / 256), BitVec.ofNat 8 (v / 65536)]

/-- The instruction the decoder reads from an instruction whose bits are `w`, numbered as the opcode table numbers
them (log 10). -/
def decodeTableWord (nbits w : Nat) : Option Instr :=
  match decodeBytes (tableBytes nbits w) with
  | .ok x _ => some x.instr
  | .rejected _ => none

/-! ### The encoder: the fields of R122 to R132 -/

/-- The 3-bit register code of R124. -/
def R8.code : R8 → BitVec 3
  | .b => 0
  | .c => 1
  | .d => 2
  | .e => 3
  | .h => 4
  | .l => 5
  | .a => 7

/-- The register code that names `(HL)` (R124). -/
def hlCode : BitVec 3 := 6

/-- The pair code of R125. -/
def Rp.code : Rp → BitVec 2
  | .bc => 0
  | .de => 1
  | .hl => 2
  | .sp => 3

/-- The push/pop pair code of R126. -/
def Rp2.code : Rp2 → BitVec 2
  | .bc => 0
  | .de => 1
  | .hl => 2
  | .af => 3

/-- The condition code of R127. -/
def Cond.code : Cond → BitVec 2
  | .nz => 0
  | .z => 1
  | .nc => 2
  | .c => 3

/-- The ALU operation code of R128. -/
def AluOp.code : AluOp → BitVec 3
  | .add => 0
  | .adc => 1
  | .sub => 2
  | .sbc => 3
  | .and => 4
  | .xor => 5
  | .or => 6
  | .cp => 7

/-- The rotate/shift code of R129. -/
def RotOp.code : RotOp → BitVec 3
  | .rlc => 0
  | .rrc => 1
  | .rl => 2
  | .rr => 3
  | .sla => 4
  | .sra => 5
  | .swap => 6
  | .srl => 7

/-- The 3-bit field of a bit index or a restart vector (R123). -/
def code3 (n : Fin 8) : BitVec 3 := BitVec.ofFin n

/-- An opcode byte from its fields x = op[7:6], y = op[5:3] and z = op[2:0] (R122). -/
def opXYZ (x : BitVec 2) (y z : BitVec 3) : Byte := x ++ y ++ z

/-- An opcode byte from its fields x = op[7:6], p = op[5:4], q = op[3] and z = op[2:0] (R122). -/
def opXPQZ (x p : BitVec 2) (q : BitVec 1) (z : BitVec 3) : Byte := x ++ p ++ q ++ z

/-- The last opcode byte of an operation kind: the opcode of a primary instruction by R130, the second byte of a CB
instruction by R132. -/
def Form.opByte : Form → Byte
  | .ldRR dst src => opXYZ 1 dst.code src.code
  | .ldRN dst => opXYZ 0 dst.code 6
  | .ldRM dst => opXYZ 1 dst.code hlCode
  | .ldMR src => opXYZ 1 hlCode src.code
  | .ldMN => opXYZ 0 hlCode 6
  | .ldABc => opXPQZ 0 0 1 2
  | .ldADe => opXPQZ 0 1 1 2
  | .ldBcA => opXPQZ 0 0 0 2
  | .ldDeA => opXPQZ 0 1 0 2
  | .ldANn => opXYZ 3 7 2
  | .ldNnA => opXYZ 3 5 2
  | .ldhAC => opXYZ 3 6 2
  | .ldhCA => opXYZ 3 4 2
  | .ldhAN => opXYZ 3 6 0
  | .ldhNA => opXYZ 3 4 0
  | .ldAHld => opXPQZ 0 3 1 2
  | .ldHldA => opXPQZ 0 3 0 2
  | .ldAHli => opXPQZ 0 2 1 2
  | .ldHliA => opXPQZ 0 2 0 2
  | .ldRpNn p => opXPQZ 0 p.code 0 1
  | .ldSpHl => opXPQZ 3 3 1 1
  | .push p => opXPQZ 3 p.code 0 5
  | .pop p => opXPQZ 3 p.code 0 1
  | .ldHlSpE => opXYZ 3 7 0
  | .ldNnSp => opXYZ 0 1 0
  | .aluR op src => opXYZ 2 op.code src.code
  | .aluM op => opXYZ 2 op.code hlCode
  | .aluN op => opXYZ 3 op.code 6
  | .incR r => opXYZ 0 r.code 4
  | .incM => opXYZ 0 hlCode 4
  | .decR r => opXYZ 0 r.code 5
  | .decM => opXYZ 0 hlCode 5
  | .daa => opXYZ 0 4 7
  | .cpl => opXYZ 0 5 7
  | .scf => opXYZ 0 6 7
  | .ccf => opXYZ 0 7 7
  | .incRp p => opXPQZ 0 p.code 0 3
  | .decRp p => opXPQZ 0 p.code 1 3
  | .addHl p => opXPQZ 0 p.code 1 1
  | .addSpE => opXYZ 3 5 0
  | .rlca => opXYZ 0 0 7
  | .rrca => opXYZ 0 1 7
  | .rla => opXYZ 0 2 7
  | .rra => opXYZ 0 3 7
  | .rotR op r => opXYZ 0 op.code r.code
  | .rotM op => opXYZ 0 op.code hlCode
  | .bitR b r => opXYZ 1 (code3 b) r.code
  | .bitM b => opXYZ 1 (code3 b) hlCode
  | .resR b r => opXYZ 2 (code3 b) r.code
  | .resM b => opXYZ 2 (code3 b) hlCode
  | .setR b r => opXYZ 3 (code3 b) r.code
  | .setM b => opXYZ 3 (code3 b) hlCode
  | .jpNn => opXYZ 3 0 3
  | .jpCc cc => opXYZ 3 (0#1 ++ cc.code) 2
  | .jpHl => opXPQZ 3 2 1 1
  | .jrE => opXYZ 0 3 0
  | .jrCc cc => opXYZ 0 (1#1 ++ cc.code) 0
  | .callNn => opXPQZ 3 0 1 5
  | .callCc cc => opXYZ 3 (0#1 ++ cc.code) 4
  | .ret => opXPQZ 3 0 1 1
  | .retCc cc => opXYZ 3 (0#1 ++ cc.code) 0
  | .reti => opXPQZ 3 1 1 1
  | .rst y => opXYZ 3 (code3 y) 7
  | .nop => opXYZ 0 0 0
  | .halt => opXYZ 1 6 6
  | .stop => opXYZ 0 2 0
  | .di => opXYZ 3 6 3
  | .ei => opXYZ 3 7 3
  | .illegal op => op

/-- The opcode bytes of an operation kind: the prefix 0xCB first where it has one (R121, R135). -/
def Form.opcode (f : Form) : List Byte := if f.prefixed then [0xCB, f.opByte] else [f.opByte]

/-- The encoder: the opcode bytes and then the operand bytes, in fetch order (R121). -/
def encode (x : Insn) : List Byte := x.instr.form.opcode ++ x.operands

end Sys2Proof
end

