-- ==== Sys2Proof/Config.lean ====
section
/-! DEFINITION. What an implementation fixes: the behaviour of the two external devices whose behaviour the
spec leaves to a parameter (R450, R452), as constants without a body, and the values this model names where the
spec leaves a reset value open (R10, R54). -/

namespace Sys2Proof

/-- Which of its three windows an access reaches the PPU through (R450). -/
inductive PpuPort where
  | register
  | vram
  | oam
  deriving DecidableEq, Repr

/-- What one tick of an external PPU answers: its new state and the two interrupt requests it may raise (R451). -/
structure PpuTick where
  /-- the PPU's state after the tick, as a code number -/
  ext : Nat
  /-- whether the tick sets IF[0] -/
  vblank : Bool
  /-- whether the tick sets IF[1] -/
  lcdStat : Bool
  deriving DecidableEq, Repr, Inhabited

namespace Config

/-- What an external PPU in state `ext` answers to a read through a port (R450; log 6). No body: any PPU. -/
opaque ppuRead (ext : Nat) (port : PpuPort) (a : Word) : Byte

/-- The state of an external PPU after a write through a port (R450; log 6). No body: any PPU. -/
opaque ppuWrite (ext : Nat) (port : PpuPort) (a : Word) (v : Byte) : Nat

/-- One tick of an external PPU (R451; log 6). No body: any PPU. -/
opaque ppuTick (ext : Nat) : PpuTick

/-- What an external joypad in state `ext` answers to a read of 0xFF00 (R452; log 7). No body: any joypad. -/
opaque joypadRead (ext : Nat) : Byte

/-- The state of an external joypad after a write to 0xFF00 (R452; log 7). No body: any joypad. -/
opaque joypadWrite (ext : Nat) (v : Byte) : Nat

/-- What a byte that a memory array does not list reads as (`RAM_INIT`, `CART_ROM`, `BOOT_ROM` of R10 are open).
DESIGN CHOICE, unsafe: log 5. -/
def unlistedByte : Byte := 0x00

/-- The value of A, B, C, D, E, H and L at reset (`RESET_REGS` of R10 is open). DESIGN CHOICE, unsafe: log 3. -/
def resetByte : Byte := 0x00

/-- The value of SP at reset (`RESET_REGS` of R10 is open). DESIGN CHOICE, unsafe: log 3. -/
def resetSp : Word := 0x0000

/-- The flags Z, N, Hf, Cf at reset (`RESET_REGS` of R10 is open). DESIGN CHOICE, unsafe: log 3. -/
def resetFlags : BitVec 4 := 0

/-- `IF_RESET` of R10. DESIGN CHOICE, unsafe: log 4. -/
def ifReset : BitVec 5 := 0

/-- `DIV_RESET` of R10. DESIGN CHOICE, unsafe: log 4. -/
def divReset : Word := 0x0000

/-- `DMA_REG_RESET` of R10. DESIGN CHOICE, unsafe: log 4. -/
def dmaRegReset : Byte := 0x00

end Config

end Sys2Proof
end

