-- ==== Sys2Proof/Machine/State.lean ====
section
/-! DEFINITION. The state of the machine as plain data (10_state.md), the reasons a step can stop, and the launch
(70_reset_and_hazards.md R480 to R483). -/

namespace Sys2Proof.Machine

/-- A memory array: (address, byte) pairs, addresses strictly rising, no byte equal to what an unlisted address
reads as (`Memory.wf`). -/
abbrev Memory := List Host.Cell

/-- The register file, SP and PC (R30, R33, R34). `f` holds Z, N, Hf, Cf in bits 7 to 4 (R35). -/
structure Cpu where
  a : Byte
  f : Byte
  b : Byte
  c : Byte
  d : Byte
  e : Byte
  h : Byte
  l : Byte
  sp : Word
  pc : Word
  deriving DecidableEq, Repr

/-- The interrupt master enable (R40). -/
inductive Ime where
  | disabled
  | scheduledInitial
  | scheduledNext
  | enabled
  deriving DecidableEq, Repr

/-- The timer (R44). -/
structure Timer where
  div : Word
  tima : Byte
  tma : Byte
  tac : BitVec 3
  reloadPending : Bool
  reloadDue : Bool
  deriving DecidableEq, Repr

/-- The state of a transfer (R48). -/
inductive DmaStatus where
  | off
  | scheduledInitial
  | scheduledNext
  | inProgress
  deriving DecidableEq, Repr

/-- The DMA controller (R48). -/
structure Dma where
  src : Word
  progress : Byte
  status : DmaStatus
  reg : Byte
  deriving DecidableEq, Repr

/-- Which PPU the launch plugs in: the default `NullPPU` of R450, or any other, behaving as the constants without a
body of `Config` say (log 6). -/
inductive PpuModel where
  | null
  | external
  deriving DecidableEq, Repr

/-- The PPU's state (R450): the bytes `NullPPU` stores for its registers, VRAM and OAM, by address; the code number of
an external PPU's state. -/
structure Ppu where
  model : PpuModel
  bytes : Memory
  ext : Nat
  deriving DecidableEq, Repr

/-- Which joypad the launch plugs in (R452): the default (reads 0xFF, ignores writes), the register shim R452 gives
for reference, or any other (log 7). -/
inductive JoypadModel where
  | default
  | shim
  | external
  deriving DecidableEq, Repr

/-- The joypad's state (R452): the shim's select lines and the two button masks (1 = pressed); the code number of an
external joypad's state. -/
structure Joypad where
  model : JoypadModel
  select : BitVec 2
  actions : BitVec 4
  directions : BitVec 4
  ext : Nat
  deriving DecidableEq, Repr

/-- What the host does at one M-cycle boundary (R175, R453): raise IF[4] or not, replace the joypad's state or not,
replace the PPU's state or not. -/
structure HostInput where
  joypadIrq : Bool
  joypad : Option Joypad
  ppu : Option Ppu
  deriving DecidableEq, Repr

/-- The scratch of an instruction in flight (R51). -/
structure Scratch where
  op : Byte
  cb : Bool
  op2 : Byte
  lo : Byte
  hi : Byte
  tmp : Byte
  carryLo : Bool
  taken : Bool
  deriving DecidableEq, Repr

/-- The scratch a fresh instruction starts with. Never read before it is written: log 15. -/
def Scratch.fresh : Scratch :=
  { op := 0, cb := false, op2 := 0, lo := 0, hi := 0, tmp := 0, carryLo := false, taken := false }

/-- The kind of a sequence (R51). -/
inductive SeqKind where
  | instr (x : Scratch)
  | service (v : Word)
  | haltWait
  | haltResume
  deriving DecidableEq, Repr

/-- A sequence in flight: its kind and the number of its next step, 1-based (R51). -/
structure Seq where
  kind : SeqKind
  k : Nat
  deriving DecidableEq, Repr

/-- The fatal conditions (R52, R441). -/
inductive FatalKind where
  /-- one of the 11 illegal bytes was fetched (R391) -/
  | illegalOpcode (op : Byte)
  /-- 0x10 was fetched (R394) -/
  | stopNotModelled
  /-- HALT with IME not Enabled and an enabled interrupt requested (R393) -/
  | haltBugNotModelled
  deriving DecidableEq, Repr

/-- The state of the machine (R54 lists it). -/
structure State where
  cpu : Cpu
  ime : Ime
  /-- IF, the interrupt flag register: bit 0 vblank, 1 lcd_stat, 2 timer, 3 serial, 4 joypad (R41) -/
  iflag : BitVec 5
  /-- IE, the interrupt enable register: 8 stored bits, bits 4:0 act (R42) -/
  ie : Byte
  halted : Bool
  timer : Timer
  dma : Dma
  bootMapped : Bool
  /-- the boot ROM image, 0x0000 to 0x00FF (R50) -/
  boot : Memory
  /-- the cartridge ROM, 0x0000 to 0x7FFF (R50) -/
  rom : Memory
  /-- the flat RAM array (R50, R77) -/
  ram : Memory
  ppu : Ppu
  joypad : Joypad
  cur : Option Seq
  fault : Option FatalKind
  /-- what the host does at the coming M-cycle boundaries, the next one first (the model's own field: log 8) -/
  inputs : List HostInput
  deriving DecidableEq, Repr

/-- Why a step answers no next state. -/
inductive Fault where
  /-- Raised by `step` in a state whose `fault` is set: no M-cycle runs (R440, R174). Safe: the spec's own stop. -/
  | fatal (kind : FatalKind)
  /-- Raised by `exec` and `step` when the sequence in flight has no step of the number `cur` holds. No run reaches
  it. Safe: it stops (log 9). -/
  | noSuchStep
  deriving DecidableEq, Repr

/-- Why the model has no meaning for an instruction. -/
inductive Refusal where
  /-- An instruction without a meaning yet, by its mnemonic. Raised by no arm of this model. Safe: it stops. -/
  | notModelled (mnemonic : String)
  deriving DecidableEq, Repr

/-- The answer of a step or of an instruction's meaning. -/
abbrev Result := Host.Outcome State Fault Refusal

/-- The parameters of a launch that the spec leaves open (R10). -/
structure Launch where
  /-- `BOOT_ROM` -/
  bootRom : Memory
  /-- `CART_ROM` -/
  cartRom : Memory
  /-- `RAM_INIT` -/
  ramInit : Memory
  /-- `RESET_REGS`: A -/
  a : Byte
  /-- `RESET_REGS`: F[7:4] -/
  flags : BitVec 4
  /-- `RESET_REGS`: B -/
  b : Byte
  /-- `RESET_REGS`: C -/
  c : Byte
  /-- `RESET_REGS`: D -/
  d : Byte
  /-- `RESET_REGS`: E -/
  e : Byte
  /-- `RESET_REGS`: H -/
  h : Byte
  /-- `RESET_REGS`: L -/
  l : Byte
  /-- `RESET_REGS`: SP -/
  sp : Word
  /-- `IF_RESET` -/
  ifReset : BitVec 5
  /-- `DIV_RESET` -/
  divReset : Word
  /-- `DMA_REG_RESET` -/
  dmaRegReset : Byte
  /-- `PPU` -/
  ppu : Ppu
  /-- `JOYPAD` -/
  joypad : Joypad
  /-- what the host will do (log 8) -/
  inputs : List HostInput
  deriving DecidableEq, Repr

/-- The launch this model names for `State.reset`. DESIGN CHOICE, unsafe: log 3 to 8. -/
def Launch.default : Launch :=
  { bootRom := []
    cartRom := []
    ramInit := []
    a := Config.resetByte
    flags := Config.resetFlags
    b := Config.resetByte
    c := Config.resetByte
    d := Config.resetByte
    e := Config.resetByte
    h := Config.resetByte
    l := Config.resetByte
    sp := Config.resetSp
    ifReset := Config.ifReset
    divReset := Config.divReset
    dmaRegReset := Config.dmaRegReset
    ppu := { model := .null, bytes := [], ext := 0 }
    joypad := { model := .default, select := 0, actions := 0, directions := 0, ext := 0 }
    inputs := [] }

/-- The launch procedure (R480) with the values of R54; F[3:0] is 0 (R36). -/
def State.launch (p : Launch) : State :=
  { cpu := { a := p.a, f := p.flags ++ 0#4, b := p.b, c := p.c, d := p.d, e := p.e, h := p.h, l := p.l,
             sp := p.sp, pc := 0x0000 }
    ime := .disabled
    iflag := p.ifReset
    ie := 0x00
    halted := false
    timer := { div := p.divReset, tima := 0x00, tma := 0x00, tac := 0, reloadPending := false, reloadDue := false }
    dma := { src := 0x0000, progress := 0, status := .off, reg := p.dmaRegReset }
    bootMapped := true
    boot := p.bootRom
    rom := p.cartRom
    ram := p.ramInit
    ppu := p.ppu
    joypad := p.joypad
    cur := none
    fault := none
    inputs := p.inputs }

/-- The machine right after reset: the launch of R480 with the parameters this model names. -/
def State.reset : State := State.launch Launch.default

/-- The launch without a boot ROM, profile `DMG_POST_BOOT` (R483). -/
def State.postBoot (p : Launch) : State :=
  { State.launch p with
    cpu := { a := 0x01, f := 0xB0, b := 0x00, c := 0x13, d := 0x00, e := 0xD8, h := 0x01, l := 0x4D,
             sp := 0xFFFE, pc := 0x0100 }
    bootMapped := false }

end Sys2Proof.Machine
end

