-- ==== Sys2Proof/Machine/Operands.lean ====
section
/-! DEFINITION. The operand forms: bytes and words (R12, R13), registers by code (R14, R31, R124 to R126), and the
setters the instructions use on SP, PC and the scratch. -/

namespace Sys2Proof.Machine

/-- The high byte of a word (R12). -/
def hi (x : Word) : Byte := x.extractLsb' 8 8

/-- The low byte of a word (R12). -/
def lo (x : Word) : Byte := x.extractLsb' 0 8

/-- The word of a high and a low byte (R12). -/
def cat (h l : Byte) : Word := h ++ l

/-- Sign extension of a displacement byte (R13, R123). -/
def sext16 (e : Byte) : Word := e.signExtend 16

/-- Zero extension of a byte (R13). -/
def zext16 (v : Byte) : Word := v.setWidth 16

/-- The register a code names (R124). -/
def Cpu.r8 (p : Cpu) : R8 → Byte
  | .b => p.b
  | .c => p.c
  | .d => p.d
  | .e => p.e
  | .h => p.h
  | .l => p.l
  | .a => p.a

/-- Writes the register a code names (R124). -/
def Cpu.setR8 (p : Cpu) (r : R8) (v : Byte) : Cpu :=
  match r with
  | .b => { p with b := v }
  | .c => { p with c := v }
  | .d => { p with d := v }
  | .e => { p with e := v }
  | .h => { p with h := v }
  | .l => { p with l := v }
  | .a => { p with a := v }

/-- The pair AF (R31). -/
def Cpu.af (p : Cpu) : Word := cat p.a p.f

/-- The pair BC (R31). -/
def Cpu.bc (p : Cpu) : Word := cat p.b p.c

/-- The pair DE (R31). -/
def Cpu.de (p : Cpu) : Word := cat p.d p.e

/-- The pair HL (R31). -/
def Cpu.hl (p : Cpu) : Word := cat p.h p.l

/-- Writes HL: both halves (R31). -/
def Cpu.setHl (p : Cpu) (v : Word) : Cpu := { p with h := hi v, l := lo v }

/-- The pair a code of `rp` names (R125). -/
def Cpu.rp (p : Cpu) : Rp → Word
  | .bc => p.bc
  | .de => p.de
  | .hl => p.hl
  | .sp => p.sp

/-- Writes the pair a code of `rp` names: its high register and its low register (R31, R125). -/
def Cpu.setRp (p : Cpu) (q : Rp) (v : Word) : Cpu :=
  match q with
  | .bc => { p with b := hi v, c := lo v }
  | .de => { p with d := hi v, e := lo v }
  | .hl => p.setHl v
  | .sp => { p with sp := v }

/-- The pair a code of `rp2` names (R126). -/
def Cpu.rp2 (p : Cpu) : Rp2 → Word
  | .bc => p.bc
  | .de => p.de
  | .hl => p.hl
  | .af => p.af

/-- Writes the pair a code of `rp2` names; for AF the low nibble of F stays 0 (R36, R126, R236). -/
def Cpu.setRp2 (p : Cpu) (q : Rp2) (v : Word) : Cpu :=
  match q with
  | .bc => { p with b := hi v, c := lo v }
  | .de => { p with d := hi v, e := lo v }
  | .hl => p.setHl v
  | .af => { p with a := hi v, f := lo v &&& 0xF0#8 }

/-- Replaces the register file. -/
def State.setCpu (s : State) (p : Cpu) : State := { s with cpu := p }

/-- Writes an 8-bit register. -/
def State.setR8 (s : State) (r : R8) (v : Byte) : State := s.setCpu (s.cpu.setR8 r v)

/-- Writes HL. -/
def State.setHl (s : State) (v : Word) : State := s.setCpu (s.cpu.setHl v)

/-- Writes a pair of `rp`. -/
def State.setRp (s : State) (q : Rp) (v : Word) : State := s.setCpu (s.cpu.setRp q v)

/-- Writes a pair of `rp2`. -/
def State.setRp2 (s : State) (q : Rp2) (v : Word) : State := s.setCpu (s.cpu.setRp2 q v)

/-- `PC <- v` (R16). -/
def State.setPc (s : State) (v : Word) : State := s.setCpu { s.cpu with pc := v }

/-- `PC <- PC + 1`, modulo 2^16 (R34). -/
def State.incPc (s : State) : State := s.setPc (s.cpu.pc + 1)

/-- `SP <- v`. -/
def State.setSp (s : State) (v : Word) : State := s.setCpu { s.cpu with sp := v }

/-- `SP <- SP - 1`, modulo 2^16 (R33). -/
def State.decSp (s : State) : State := s.setSp (s.cpu.sp - 1)

/-- `SP <- SP + 1`, modulo 2^16 (R33). -/
def State.incSp (s : State) : State := s.setSp (s.cpu.sp + 1)

/-- `IME <- v` (R16). -/
def State.setIme (s : State) (v : Ime) : State := { s with ime := v }

/-- The scratch of the instruction in flight (R51). -/
def State.scratch (s : State) : Scratch :=
  match s.cur with
  | some ⟨.instr x, _⟩ => x
  | _ => .fresh

/-- Applies a function to a sequence's scratch, if it has one. -/
def SeqKind.mapScratch (g : Scratch → Scratch) : SeqKind → SeqKind
  | .instr x => .instr (g x)
  | kind => kind

/-- Applies a function to the scratch of the instruction in flight. -/
def State.mapScratch (s : State) (g : Scratch → Scratch) : State :=
  { s with cur := s.cur.map fun q => { q with kind := q.kind.mapScratch g } }

/-- `lo <- v` in the scratch. -/
def State.setLo (s : State) (v : Byte) : State := s.mapScratch fun x => { x with lo := v }

/-- `hi <- v` in the scratch. -/
def State.setHi (s : State) (v : Byte) : State := s.mapScratch fun x => { x with hi := v }

/-- `tmp <- v` in the scratch. -/
def State.setTmp (s : State) (v : Byte) : State := s.mapScratch fun x => { x with tmp := v }

/-- `carry_lo <- v` in the scratch. -/
def State.setCarryLo (s : State) (v : Bool) : State := s.mapScratch fun x => { x with carryLo := v }

/-- `taken <- v` in the scratch. -/
def State.setTaken (s : State) (v : Bool) : State := s.mapScratch fun x => { x with taken := v }

/-- `cat(hi, lo)` of the scratch: an assembled 16-bit operand or a popped word (R123, R234). -/
def State.hiLo (s : State) : Word := cat s.scratch.hi s.scratch.lo

end Sys2Proof.Machine
end

