-- ==== Sys2Proof/Machine/Flags.lean ====
section
/-! DEFINITION. The flags (R35 to R39) and every flag computation: the 8-bit ALU (43_alu8.md), the 16-bit ALU
(44_alu16.md, R238), the rotates, shifts and bit operations (45_rotate_shift_bit.md), the conditions (R360). -/

namespace Sys2Proof.Machine

/-- The zero flag: F[7] (R35). -/
def Cpu.zf (p : Cpu) : Bool := p.f[7]

/-- The negative flag: F[6] (R35). -/
def Cpu.nf (p : Cpu) : Bool := p.f[6]

/-- The half-carry flag: F[5] (R35). -/
def Cpu.hf (p : Cpu) : Bool := p.f[5]

/-- The carry flag: F[4] (R35). -/
def Cpu.cf (p : Cpu) : Bool := p.f[4]

/-- The byte of four flags, its low nibble 0 (R35, R36). -/
def packFlags (z n h c : Bool) : Byte :=
  BitVec.ofBool z ++ BitVec.ofBool n ++ BitVec.ofBool h ++ BitVec.ofBool c ++ 0#4

/-- Writes the four flags. -/
def Cpu.setFlags (p : Cpu) (z n h c : Bool) : Cpu := { p with f := packFlags z n h c }

/-- Writes the four flags. -/
def State.setFlags (s : State) (z n h c : Bool) : State := s.setCpu (s.cpu.setFlags z n h c)

/-- A result byte with the four flags. -/
structure Flagged where
  val : Byte
  z : Bool
  n : Bool
  h : Bool
  c : Bool
  deriving DecidableEq, Repr

/-- The low nibble of a byte as a number. -/
def nibble (v : Byte) : Nat := v.toNat % 16

/-- The two-stage add (R269). -/
def add8 (a b : Byte) (cin : Bool) : Flagged :=
  let t := a + b
  let h1 := decide (nibble a + nibble b > 0xF)
  let c1 := decide (a.toNat + b.toNat > 0xFF)
  let r := t + (BitVec.ofBool cin).setWidth 8
  let h2 := decide (nibble t + cin.toNat > 0xF)
  let c2 := decide (t.toNat + cin.toNat > 0xFF)
  { val := r, z := r == 0, n := false, h := h1 || h2, c := c1 || c2 }

/-- The two-stage subtract (R269): its carries are borrows. -/
def sub8 (a b : Byte) (cin : Bool) : Flagged :=
  let t := a - b
  let h1 := decide (nibble a < nibble b)
  let c1 := decide (a.toNat < b.toNat)
  let r := t - (BitVec.ofBool cin).setWidth 8
  let h2 := decide (nibble t < cin.toNat)
  let c2 := decide (t.toNat < cin.toNat)
  { val := r, z := r == 0, n := true, h := h1 || h2, c := c1 || c2 }

/-- AND (R265). -/
def and8 (a b : Byte) : Flagged :=
  let r := a &&& b
  { val := r, z := r == 0, n := false, h := true, c := false }

/-- XOR (R266). -/
def xor8 (a b : Byte) : Flagged :=
  let r := a ^^^ b
  { val := r, z := r == 0, n := false, h := false, c := false }

/-- OR (R267). -/
def or8 (a b : Byte) : Flagged :=
  let r := a ||| b
  { val := r, z := r == 0, n := false, h := false, c := false }

/-- The accumulator operations: A, the operand and the carry flag to the value A gets and the flags (R261 to R268).
CP keeps A. -/
def alu8 (op : AluOp) (a b : Byte) (cf : Bool) : Flagged :=
  match op with
  | .add => add8 a b false
  | .adc => add8 a b cf
  | .sub => sub8 a b false
  | .sbc => sub8 a b cf
  | .and => and8 a b
  | .xor => xor8 a b
  | .or => or8 a b
  | .cp => { sub8 a b false with val := a }

/-- INC of a byte; the carry flag is kept (R270). -/
def inc8 (v : Byte) (cf : Bool) : Flagged :=
  let r := v + 1
  { val := r, z := r == 0, n := false, h := nibble v == 0xF, c := cf }

/-- DEC of a byte; the carry flag is kept (R272). -/
def dec8 (v : Byte) (cf : Bool) : Flagged :=
  let r := v - 1
  { val := r, z := r == 0, n := true, h := nibble v == 0x0, c := cf }

/-- DAA: A, N, Hf and Cf to the adjusted A and the flags; N is kept (R274). -/
def daa8 (a : Byte) (n h c : Bool) : Flagged :=
  if n then
    let a1 := if c then a - 0x60#8 else a
    let a2 := if h then a1 - 0x06#8 else a1
    { val := a2, z := a2 == 0, n := n, h := false, c := c }
  else
    let up := c || decide (a.toNat > 0x99)
    let a1 := if up then a + 0x60#8 else a
    let a2 := if h || decide (nibble a1 > 0x09) then a1 + 0x06#8 else a1
    { val := a2, z := a2 == 0, n := n, h := false, c := up }

/-- A rotate or shift result with its carry-out (R325). -/
structure Rotated where
  val : Byte
  co : Bool
  deriving DecidableEq, Repr

/-- A Boolean as bit 0 of a byte. -/
def bit0 (c : Bool) : Byte := (BitVec.ofBool c).setWidth 8

/-- A Boolean as bit 7 of a byte. -/
def bit7 (c : Bool) : Byte := bit0 c <<< 7

/-- The rotate and shift functions (R325). -/
def rotate (op : RotOp) (v : Byte) (cin : Bool) : Rotated :=
  match op with
  | .rlc => { val := (v <<< 1) ||| bit0 v[7], co := v[7] }
  | .rrc => { val := (v >>> 1) ||| bit7 v[0], co := v[0] }
  | .rl => { val := (v <<< 1) ||| bit0 cin, co := v[7] }
  | .rr => { val := (v >>> 1) ||| bit7 cin, co := v[0] }
  | .sla => { val := v <<< 1, co := v[7] }
  | .sra => { val := (v >>> 1) ||| (v &&& 0x80#8), co := v[0] }
  | .swap => { val := (v <<< 4) ||| (v >>> 4), co := false }
  | .srl => { val := v >>> 1, co := v[0] }

/-- The x = 0 group of the CB table: the result, Z from it, N = Hf = 0, Cf the carry-out (R326). -/
def rotFlagged (op : RotOp) (v : Byte) (cin : Bool) : Flagged :=
  let r := rotate op v cin
  { val := r.val, z := r.val == 0, n := false, h := false, c := r.co }

/-- The accumulator rotates: Z is always 0 (R321 to R324, R326). -/
def rotAccFlagged (op : RotOp) (v : Byte) (cin : Bool) : Flagged :=
  let r := rotate op v cin
  { val := r.val, z := false, n := false, h := false, c := r.co }

/-- RES (R336). -/
def resBit (b : Fin 8) (v : Byte) : Byte := v &&& ~~~(1#8 <<< b.val)

/-- SET (R337). -/
def setBit (b : Fin 8) (v : Byte) : Byte := v ||| (1#8 <<< b.val)

/-- BIT: Z from the tested bit, N = 0, Hf = 1, Cf kept (R335). -/
def bitFlags (b : Fin 8) (v : Byte) (cf : Bool) : Flagged :=
  { val := v, z := !v[b.val], n := false, h := true, c := cf }

/-- A 16-bit result with the flags it computes. -/
structure Flagged16 where
  val : Word
  h : Bool
  c : Bool
  deriving DecidableEq, Repr

/-- The signed-offset add: its carries are those of the unsigned add of the low byte and the raw byte (R238). -/
def spAdd (sp : Word) (e : Byte) : Flagged16 :=
  { val := sp + sext16 e
    h := decide (nibble (lo sp) + nibble e > 0x0F)
    c := decide ((lo sp).toNat + e.toNat > 0xFF) }

/-- A condition on the flags (R127, R360). -/
def Cpu.cond (p : Cpu) : Cond → Bool
  | .nz => !p.zf
  | .z => p.zf
  | .nc => !p.cf
  | .c => p.cf

/-- Writes the flags of a result. -/
def State.setFlagsOf (s : State) (r : Flagged) : State := s.setFlags r.z r.n r.h r.c

end Sys2Proof.Machine
end

