-- ==== Sys2Proof/Machine/Memory.lean ====
section
/-! DEFINITION. One memory array: reading and writing a byte, and its canonical form. -/

namespace Sys2Proof.Machine

/-- What the array holds at an address: `Config.unlistedByte` where it lists none (log 5). -/
def Memory.read : Memory → Nat → Byte
  | [], _ => Config.unlistedByte
  | (k, v) :: m, a => if k = a then v else Memory.read m a

/-- An entry in front of an array, unless it says what an unlisted address says anyway. -/
def Memory.put (m : Memory) (a : Nat) (v : Byte) : Memory := if v = Config.unlistedByte then m else (a, v) :: m

/-- Writes a byte, keeping the canonical form. -/
def Memory.write : Memory → Nat → Byte → Memory
  | [], a, v => Memory.put [] a v
  | (k, w) :: m, a, v =>
    if a < k then Memory.put ((k, w) :: m) a v
    else if a = k then Memory.put m a v
    else (k, w) :: Memory.write m a v

/-- The canonical form: addresses strictly rising from `lo` and below `hi`, no entry that says what an unlisted address
says. -/
def Memory.wfFrom : Memory → Nat → Nat → Bool
  | [], _, _ => true
  | (k, v) :: m, lo, hi => lo ≤ k && k < hi && v != Config.unlistedByte && Memory.wfFrom m (k + 1) hi

/-- The canonical form of an array of `size` bytes. -/
def Memory.wf (m : Memory) (size : Nat) : Bool := Memory.wfFrom m 0 size

end Sys2Proof.Machine
end

