-- ==== Sys2Proof/Machine/Devices.lean ====
section
/-! DEFINITION. The devices as the bus sees them: the timer's signal, increment and register writes (R46, R431, R433
to R436), the start of a DMA (R442), the PPU (R450) and the joypad register (R452). -/

namespace Sys2Proof.Machine

/-- The divider bit TAC[1:0] selects (R45). -/
def selBit (tac : BitVec 3) : Nat :=
  match (tac.extractLsb' 0 2).toNat with
  | 0 => 9
  | 1 => 3
  | 2 => 5
  | _ => 7

/-- The effective timer signal: the enable bit and the selected divider bit (R46). -/
def timerSig (div : Word) (tac : BitVec 3) : Bool := tac[2] && div.getLsbD (selBit tac)

/-- The effective timer signal of a timer (R46). -/
def Timer.sig (t : Timer) : Bool := timerSig t.div t.tac

/-- The TIMA increment (R431). -/
def Timer.incTima (t : Timer) : Timer :=
  if t.tima = 0xFF then { t with tima := 0x00, reloadPending := true } else { t with tima := t.tima + 1 }

/-- The TIMA increment on a falling edge: the signal was `old` and is the timer's now (R46). -/
def Timer.edge (t : Timer) (old : Bool) : Timer := if old && !t.sig then t.incTima else t

/-- A write to DIV (R433). -/
def Timer.writeDiv (t : Timer) : Timer := Timer.edge { t with div := 0 } t.sig

/-- A write to TAC (R434). -/
def Timer.writeTac (t : Timer) (v : Byte) : Timer := Timer.edge { t with tac := v.extractLsb' 0 3 } t.sig

/-- A write to TIMA: dropped in the reload window (R436). -/
def Timer.writeTima (t : Timer) (v : Byte) : Timer := if t.reloadPending then t else { t with tima := v }

/-- A write to TMA: always stored (R436). -/
def Timer.writeTma (t : Timer) (v : Byte) : Timer := { t with tma := v }

/-- The reload at the start of a timer tick (R432). -/
def Timer.reload (t : Timer) : Timer := if t.reloadDue then { t with tima := t.tma, reloadPending := false } else t

/-- The timer's part of its tick: reload, divider, falling edge, latch (R432). -/
def Timer.tick (t : Timer) : Timer :=
  let u := t.reload
  let w := Timer.edge { u with div := u.div + 4 } u.sig
  { w with reloadDue := w.reloadPending }

/-- The start of a transfer (R442). -/
def Dma.start (m : Dma) (v : Byte) : Dma :=
  if v = 0 then m else { m with src := cat v 0x00, progress := 0, status := .scheduledInitial }

/-- A write to the DMA register (R72): the byte is kept for reads, then the start. -/
def Dma.writeReg (m : Dma) (v : Byte) : Dma := Dma.start { m with reg := v } v

/-- A read of the PPU through one of its ports (R450). -/
def Ppu.read (p : Ppu) (port : PpuPort) (a : Word) : Byte :=
  match p.model with
  | .null => p.bytes.read a.toNat
  | .external => Config.ppuRead p.ext port a

/-- A write to the PPU through one of its ports (R450). -/
def Ppu.write (p : Ppu) (port : PpuPort) (a : Word) (v : Byte) : Ppu :=
  match p.model with
  | .null => { p with bytes := p.bytes.write a.toNat v }
  | .external => { p with ext := Config.ppuWrite p.ext port a v }

/-- The PPU after its tick (R450, R451). -/
def Ppu.tick (p : Ppu) : Ppu :=
  match p.model with
  | .null => p
  | .external => { p with ext := (Config.ppuTick p.ext).ext }

/-- The IF bits the PPU's tick raises: bit 0 vblank, bit 1 lcd_stat (R451). -/
def Ppu.tickIrq (p : Ppu) : BitVec 5 :=
  match p.model with
  | .null => 0
  | .external => 0#3 ++ BitVec.ofBool (Config.ppuTick p.ext).lcdStat ++ BitVec.ofBool (Config.ppuTick p.ext).vblank

/-- The button lines of the register shim, active low: the groups whose select line is 0 (bit 1 of `select` selects the
actions, bit 0 the directions). Two selected groups share the lines. PRESUMED: log 7. -/
def Joypad.lines (j : Joypad) : BitVec 4 :=
  (if j.select[1] then 0xF#4 else ~~~j.actions) &&& (if j.select[0] then 0xF#4 else ~~~j.directions)

/-- A read of the joypad register (R452). -/
def Joypad.read (j : Joypad) : Byte :=
  match j.model with
  | .default => 0xFF
  | .shim => 0b11#2 ++ j.select ++ j.lines
  | .external => Config.joypadRead j.ext

/-- A write to the joypad register (R452). -/
def Joypad.write (j : Joypad) (v : Byte) : Joypad :=
  match j.model with
  | .default => j
  | .shim => { j with select := v.extractLsb' 4 2 }
  | .external => { j with ext := Config.joypadWrite j.ext v }

end Sys2Proof.Machine
end

