-- ==== Sys2Proof/Machine/Bus.lean ====
section
/-! DEFINITION. The bus: the dispatch of an address to its region, and the one-byte read and write through it
(20_memory.md R70 to R83). -/

namespace Sys2Proof.Machine

/-- The regions of the dispatch (R72), the registers of regions 2 and 3 and the two parts of regions 6 and 7 each
under its own name. -/
inductive Region where
  /-- priority 1: 0xFF40 to 0xFF45, 0xFF47 to 0xFF4B -/
  | ppuRegister
  /-- priority 2: 0xFF04 -/
  | div
  /-- priority 2: 0xFF05 -/
  | tima
  /-- priority 2: 0xFF06 -/
  | tma
  /-- priority 2: 0xFF07 -/
  | tac
  /-- priority 3: 0xFF0F -/
  | intFlag
  /-- priority 3: 0xFFFF -/
  | intEnable
  /-- priority 4: 0xFF46 -/
  | dmaReg
  /-- priority 5: 0xFF00 -/
  | joypad
  /-- priority 6: 0x0000 to 0x00FF while the boot ROM is mapped -/
  | bootRom
  /-- priority 6: 0xFF50 -/
  | unmap
  /-- priority 7: 0x8000 to 0x9FFF -/
  | vram
  /-- priority 7: 0xFE00 to 0xFE9F -/
  | oam
  /-- priority 8: 0x0000 to 0x7FFF -/
  | cartRom
  /-- priority 9: everything else -/
  | flatRam
  deriving DecidableEq, Repr

/-- Whether an address lies between two bounds, both included. -/
def within (a : Word) (first last : Nat) : Bool := decide (first ≤ a.toNat) && decide (a.toNat ≤ last)

/-- The first region, in the order of R72, that contains an address. -/
def region (bootMapped : Bool) (a : Word) : Region :=
  if within a 0xFF40 0xFF45 || within a 0xFF47 0xFF4B then .ppuRegister
  else if a = 0xFF04 then .div
  else if a = 0xFF05 then .tima
  else if a = 0xFF06 then .tma
  else if a = 0xFF07 then .tac
  else if a = 0xFF0F then .intFlag
  else if a = 0xFFFF then .intEnable
  else if a = 0xFF46 then .dmaReg
  else if a = 0xFF00 then .joypad
  else if bootMapped && within a 0x0000 0x00FF then .bootRom
  else if a = 0xFF50 then .unmap
  else if within a 0x8000 0x9FFF then .vram
  else if within a 0xFE00 0xFE9F then .oam
  else if within a 0x0000 0x7FFF then .cartRom
  else .flatRam

/-- The region of an address in a state (R72). -/
def State.region (s : State) (a : Word) : Region := Machine.region s.bootMapped a

/-- `MemRead(a, 1)`: the bus read (R15, R72). It changes nothing (R82). -/
def State.read (s : State) (a : Word) : Byte :=
  match s.region a with
  | .ppuRegister => s.ppu.read .register a
  | .div => hi s.timer.div
  | .tima => s.timer.tima
  | .tma => s.timer.tma
  | .tac => 0b11111#5 ++ s.timer.tac
  | .intFlag => 0b111#3 ++ s.iflag
  | .intEnable => s.ie
  | .dmaReg => s.dma.reg
  | .joypad => s.joypad.read
  | .bootRom => s.boot.read a.toNat
  | .unmap => 0xFF
  | .vram => s.ppu.read .vram a
  | .oam => s.ppu.read .oam a
  | .cartRom => s.rom.read a.toNat
  | .flatRam => s.ram.read a.toNat

/-- `MemWrite(a, 1, v)`: the bus write with its side effects (R15, R72, R74, R75, R83). -/
def State.write (s : State) (a : Word) (v : Byte) : State :=
  match s.region a with
  | .ppuRegister => { s with ppu := s.ppu.write .register a v }
  | .div => { s with timer := s.timer.writeDiv }
  | .tima => { s with timer := s.timer.writeTima v }
  | .tma => { s with timer := s.timer.writeTma v }
  | .tac => { s with timer := s.timer.writeTac v }
  | .intFlag => { s with iflag := v.extractLsb' 0 5 }
  | .intEnable => { s with ie := v }
  | .dmaReg => { s with dma := s.dma.writeReg v }
  | .joypad => { s with joypad := s.joypad.write v }
  | .bootRom => s
  | .unmap => { s with bootMapped := false }
  | .vram => { s with ppu := s.ppu.write .vram a v }
  | .oam => { s with ppu := s.ppu.write .oam a v }
  | .cartRom => s
  | .flatRam => { s with ram := s.ram.write a.toNat v }

/-- `write_bytes`: the one-byte writes in order, each through the dispatch (R80). -/
def State.writeBytes (s : State) (a : Word) : List Byte → State
  | [] => s
  | v :: vs => (s.write a v).writeBytes (a + 1) vs

end Sys2Proof.Machine
end

