-- ==== Sys2Proof/Machine/Ticks.lean ====
section
/-! DEFINITION. The four device ticks that follow every step, in their fixed order (R160), and what the host does
between two M-cycles (R175, R453). -/

namespace Sys2Proof.Machine

/-- Sets bits of IF, leaving the others (R413). -/
def State.request (s : State) (bits : BitVec 5) : State := { s with iflag := s.iflag ||| bits }

/-- IF[2], the timer's request bit (R411). -/
def timerBit : BitVec 5 := 0b00100

/-- IF[4], the joypad's request bit (R411). -/
def joypadBit : BitVec 5 := 0b10000

/-- The copy of one byte by a transfer in progress (R443). -/
def State.dmaCopy (s : State) : State :=
  let off := zext16 s.dma.progress
  let v := s.read (s.dma.src + off)
  let next := s.dma.progress + 1
  { s with
    ppu := s.ppu.write .oam (0xFE00 + off) v
    dma := { s.dma with progress := next, status := if next = 160 then .off else .inProgress } }

/-- The DMA tick (R443). -/
def State.dmaTick (s : State) : State :=
  match s.dma.status with
  | .off => s
  | .scheduledInitial => { s with dma := { s.dma with status := .scheduledNext } }
  | .scheduledNext => { s with dma := { s.dma with status := .inProgress } }
  | .inProgress => s.dmaCopy

/-- The transition of the IME tick (R416). -/
def Ime.tick : Ime → Ime
  | .disabled => .disabled
  | .scheduledInitial => .scheduledNext
  | .scheduledNext => .enabled
  | .enabled => .enabled

/-- The IME tick (R416). -/
def State.imeTick (s : State) : State := s.setIme s.ime.tick

/-- The PPU tick: it may set IF[0] and IF[1] (R451). -/
def State.ppuTick (s : State) : State := State.request { s with ppu := s.ppu.tick } s.ppu.tickIrq

/-- The timer tick; the reload sets IF[2] (R432). -/
def State.timerTick (s : State) : State :=
  State.request { s with timer := s.timer.tick } (if s.timer.reloadDue then timerBit else 0)

/-- The four ticks in order: DMA, IME, PPU, Timer (R160). -/
def State.tick (s : State) : State := s.dmaTick.imeTick.ppuTick.timerTick

/-- What the host does at one M-cycle boundary (R175, R453). -/
def State.applyInput (s : State) (x : HostInput) : State :=
  State.request
    { s with joypad := x.joypad.getD s.joypad, ppu := x.ppu.getD s.ppu }
    (if x.joypadIrq then joypadBit else 0)

/-- Takes the host's next input, if there is one (log 8). -/
def State.takeInput (s : State) : State :=
  match s.inputs with
  | [] => s
  | x :: xs => State.applyInput { s with inputs := xs } x

end Sys2Proof.Machine
end

