-- ==== Sys2Proof/Machine/Ops.lean ====
section
/-! DEFINITION. The sequencer's shared operations: step tables and their end (R17, R170), the operand-reading steps
(R123), the stack primitives (R234), the fatal stop (R440), taking an interrupt and returning from one (R161, R420 to
R422, R370). -/

namespace Sys2Proof.Machine

/-- A bus access of a step, with its address and the byte that moved (R15, R176). -/
inductive BusAccess where
  | read (a : Word) (v : Byte)
  | write (a : Word) (v : Byte)
  deriving DecidableEq, Repr

/-- How one step of a sequence ends: the sequence goes on (or ends, if this was its last step); the sequence ends
here (an untaken condition: R170); the step raised a fatal condition (R174). With it, the one bus access the step's work
made, if any (R17). -/
inductive Flow where
  | go (s : State) (bus : Option BusAccess := none)
  | endNow (s : State) (bus : Option BusAccess := none)
  | fatal (kind : FatalKind) (s : State)

/-- The work of one step. -/
abbrev Action := State → Flow

/-- Step number `k` of a table, 1-based (R51). -/
def stepAt (table : List Action) : Nat → Option Action
  | 0 => none
  | k + 1 => table[k]?

/-- `cur.k <- cur.k + 1` (R160). -/
def State.advance (s : State) : State := { s with cur := s.cur.map fun q => { q with k := q.k + 1 } }

/-- `cur <- none` (R170). -/
def State.endSeq (s : State) : State := { s with cur := none }

/-- `fault <- kind` (R174, R440). The sequence stays as it was (log 2). -/
def State.raiseFatal (s : State) (kind : FatalKind) : State := { s with fault := some kind }

/-- What follows step `k` of a sequence of `len` steps (R160, R170, R174). -/
def Flow.result (f : Flow) (k len : Nat) : Result :=
  match f with
  | .go s _ => .next (if k < len then s.advance else s.endSeq)
  | .endNow s _ => .next s.endSeq
  | .fatal kind s => .next (s.raiseFatal kind)

/-- Performs the step of a table that the sequence in flight is at (R160: "perform step cur.k of cur"), without the
device ticks. The number of a step the table does not have is a fault (log 9). -/
def runTable (table : List Action) (s : State) : Result :=
  match s.cur with
  | none => .fault .noSuchStep
  | some q =>
    match stepAt table q.k with
    | none => .fault .noSuchStep
    | some work => (work s).result q.k table.length

/-- A step whose only work is the fetch that precedes it, or an internal step with no effect (R17). -/
def idle : Action := fun s => .go s

/-- An internal step: it does one thing to the state, with no bus access (R17). -/
def act (g : State → State) : Action := fun s => .go (g s)

/-- A step that reads one byte: `v <- MemRead(addr, 1); …` (R15). -/
def reads (addr : State → Word) (g : State → Byte → State) : Action :=
  fun s => .go (g s (s.read (addr s))) (some (.read (addr s) (s.read (addr s))))

/-- A step that writes one byte: `MemWrite(addr, 1, val); …` (R15). What follows sees the state before the write and the
one after it. -/
def writes (addr : State → Word) (val : State → Byte) (g : State → State → State := fun _ t => t) : Action :=
  fun s => .go (g s (s.write (addr s) (val s))) (some (.write (addr s) (val s)))

/-- PC, the address of an operand byte. -/
def State.atPc (s : State) : Word := s.cpu.pc

/-- HL, as an address. -/
def State.atHl (s : State) : Word := s.cpu.hl

/-- SP, as an address. -/
def State.atSp (s : State) : Word := s.cpu.sp

/-- A step that reads the byte at PC, advances PC past it and uses it: `n <- MemRead(PC, 1); PC <- PC + 1; …`
(R34, R123). -/
def operand (g : State → Byte → State) : Action := reads State.atPc fun s v => g s.incPc v

/-- `lo <- MemRead(PC, 1); PC <- PC + 1`. -/
def readLo : Action := operand State.setLo

/-- `hi <- MemRead(PC, 1); PC <- PC + 1`. -/
def readHi : Action := operand State.setHi

/-- `tmp <- MemRead(PC, 1); PC <- PC + 1`. -/
def readTmp : Action := operand State.setTmp

/-- `tmp <- MemRead(HL, 1)`. -/
def readHlTmp : Action := reads State.atHl State.setTmp

/-- The decision: `taken <- cond(cc)`, and the end of the sequence when the condition fails (R169, R170). -/
def decideCond (cc : Cond) (s : State) (bus : Option BusAccess := none) : Flow :=
  if s.cpu.cond cc then .go (s.setTaken true) bus else .endNow (s.setTaken false) bus

/-- A decision step of its own (RET cc: R369). -/
def decideStep (cc : Cond) : Action := fun s => decideCond cc s

/-- A decision at the read of an operand byte (JR cc, JP cc, CALL cc: R362, R365, R367). -/
def decideRead (cc : Cond) (g : State → Byte → State) : Action :=
  fun s => decideCond cc (g s.incPc (s.read s.cpu.pc)) (some (.read s.cpu.pc (s.read s.cpu.pc)))

/-- Pa of the push (R234): internal, `SP <- SP - 1`. -/
def pushA : Action := act State.decSp

/-- Pb of the push (R234): `MemWrite(SP, 1, hi(v)); SP <- SP - 1`. The value is read again here: no step between
changes it (log 12). -/
def pushB (v : State → Word) : Action := writes State.atSp (fun s => hi (v s)) fun _ t => t.decSp

/-- Pc of the push (R234): `MemWrite(SP, 1, lo(v))`, then what the instruction does in the same step. -/
def pushC (v : State → Word) (g : State → State) : Action := writes State.atSp (fun s => lo (v s)) fun _ t => g t

/-- Qa of the pop (R234): `lo <- MemRead(SP, 1); SP <- SP + 1`. -/
def popA : Action := reads State.atSp fun s v => (s.setLo v).incSp

/-- Qb of the pop (R234): `hi <- MemRead(SP, 1); SP <- SP + 1`. -/
def popB : Action := reads State.atSp fun s v => (s.setHi v).incSp

/-- `PC <- cat(hi, lo)`. -/
def State.jumpHiLo (s : State) : State := s.setPc s.hiLo

/-! ### Interrupts -/

/-- The pending interrupts: `IF[4:0] & IE[4:0]` (R412). -/
def State.pend (s : State) : BitVec 5 := s.iflag &&& s.ie.extractLsb' 0 5

/-- The lowest set bit of a non-zero set of five: vblank before lcd_stat, timer, serial, joypad (R423). -/
def lowestBit (p : BitVec 5) : Fin 5 :=
  if p[0] then 0 else if p[1] then 1 else if p[2] then 2 else if p[3] then 3 else 4

/-- The interrupt vectors (R421). -/
def vector (i : Fin 5) : Word := BitVec.ofNat 16 (0x0040 + 8 * i.val)

/-- Taking an interrupt: the request bit is cleared, IME is Disabled, a halt ends, and the service sequence of the
vector starts (R161, R162, R420). The sequence then saves PC on the stack and jumps (`serviceTable`). -/
def State.dispatch (s : State) (i : Fin 5) : State :=
  { s with
    iflag := s.iflag &&& ~~~(1#5 <<< i.val)
    ime := .disabled
    halted := false
    cur := some ⟨.service (vector i), 1⟩ }

/-- The service sequence `Service(v)`: S1 and S2 internal, S3 and S4 push PC high then low, S5 jumps (R422). -/
def serviceTable (v : Word) : List Action :=
  [idle,
   idle,
   fun s => writes State.atSp (fun u => hi u.cpu.pc) (g := fun _ t => t) s.decSp,
   fun s => writes State.atSp (fun u => lo u.cpu.pc) (g := fun _ t => t) s.decSp,
   act fun s => s.setPc v]

/-- The one internal step of a halted sequence (R163). -/
def haltTable : List Action := [idle]

/-- Returning from an interrupt: M1 schedules IME, then PC is popped (R370, R419). -/
def retiTable : List Action :=
  [act fun s => s.setIme .scheduledInitial, popA, popB, act State.jumpHiLo]

/-- The scheduling decision, at a boundary with no sequence in flight (R161 to R164). -/
def State.schedule (s : State) : State :=
  if s.ime = .enabled ∧ s.pend ≠ 0 then s.dispatch (lowestBit s.pend)
  else if s.halted then
    if s.pend ≠ 0 then { s with halted := false, cur := some ⟨.haltResume, 1⟩ }
    else { s with cur := some ⟨.haltWait, 1⟩ }
  else { s with cur := some ⟨.instr .fresh, 1⟩ }

end Sys2Proof.Machine
end

