-- ==== Sys2Proof/Machine/Alu16.lean ====
section
/-! DEFINITION. 16-bit arithmetic (44_alu16.md R300 to R305). -/

namespace Sys2Proof.Machine

/-- `INC rr` (R300). -/
def incRp (p : Rp) : List Action := [idle, act fun s => s.setRp p (s.cpu.rp p + 1)]

/-- `DEC rr` (R302). -/
def decRp (p : Rp) : List Action := [idle, act fun s => s.setRp p (s.cpu.rp p - 1)]

/-- M1 of `ADD HL,rr`: the low byte and its carry (R301). -/
def State.addHlLow (s : State) (p : Rp) : State :=
  let t := s.cpu.l.toNat + (lo (s.cpu.rp p)).toNat
  (s.setR8 .l (BitVec.ofNat 8 t)).setCarryLo (decide (t > 0xFF))

/-- M2 of `ADD HL,rr`: the high byte, Hf and Cf from it, N cleared, Z kept (R301). -/
def State.addHlHigh (s : State) (p : Rp) : State :=
  let r := hi (s.cpu.rp p)
  let c := s.scratch.carryLo.toNat
  let t := s.cpu.h.toNat + r.toNat + c
  (s.setR8 .h (BitVec.ofNat 8 t)).setFlags s.cpu.zf false
    (decide (nibble s.cpu.h + nibble r + c > 0xF)) (decide (t > 0xFF))

/-- `ADD HL,rr` (R301). -/
def addHl (p : Rp) : List Action := [act fun s => s.addHlLow p, act fun s => s.addHlHigh p]

/-- `ADD SP,e` (R238, R304). -/
def addSpE : List Action :=
  [idle, readTmp, idle,
   act fun s =>
     let r := spAdd s.cpu.sp s.scratch.tmp
     (s.setSp r.val).setFlags false false r.h r.c]

/-! ### The instructions -/

/-- `INC BC` (R300). -/
def exec_inc_bc (s : State) : Result := runTable (incRp .bc) s

/-- `ADD HL,BC` (R301). -/
def exec_add_hl_bc (s : State) : Result := runTable (addHl .bc) s

/-- `DEC BC` (R302). -/
def exec_dec_bc (s : State) : Result := runTable (decRp .bc) s

/-- `INC DE` (R300). -/
def exec_inc_de (s : State) : Result := runTable (incRp .de) s

/-- `ADD HL,DE` (R301). -/
def exec_add_hl_de (s : State) : Result := runTable (addHl .de) s

/-- `DEC DE` (R302). -/
def exec_dec_de (s : State) : Result := runTable (decRp .de) s

/-- `INC HL` (R300). -/
def exec_inc_hl (s : State) : Result := runTable (incRp .hl) s

/-- `ADD HL,HL` (R301). -/
def exec_add_hl_hl (s : State) : Result := runTable (addHl .hl) s

/-- `DEC HL` (R302). -/
def exec_dec_hl (s : State) : Result := runTable (decRp .hl) s

/-- `INC SP` (R300). -/
def exec_inc_sp (s : State) : Result := runTable (incRp .sp) s

/-- `ADD HL,SP` (R301). -/
def exec_add_hl_sp (s : State) : Result := runTable (addHl .sp) s

/-- `DEC SP` (R302). -/
def exec_dec_sp (s : State) : Result := runTable (decRp .sp) s

/-- `ADD SP,e` (R304). -/
def exec_add_sp_e (s : State) : Result := runTable addSpE s

end Sys2Proof.Machine
end

