-- ==== Sys2Proof/Machine/Alu8.lean ====
section
/-! DEFINITION. 8-bit arithmetic and logic (43_alu8.md R260 to R279). -/

namespace Sys2Proof.Machine

/-- An accumulator operation with operand `b`: A and the four flags (R260 to R268). -/
def State.alu (s : State) (op : AluOp) (b : Byte) : State :=
  let r := alu8 op s.cpu.a b s.cpu.cf
  (s.setR8 .a r.val).setFlagsOf r

/-- `OP A,r` (R260). -/
def aluR (op : AluOp) (src : R8) : List Action := [act fun s => s.alu op (s.cpu.r8 src)]

/-- `OP A,(HL)` (R260). -/
def aluM (op : AluOp) : List Action := [idle, reads State.atHl fun s v => s.alu op v]

/-- `OP A,n` (R260). -/
def aluN (op : AluOp) : List Action := [idle, operand fun s n => s.alu op n]

/-- A register rewritten with the flags of the result (R270, R272, and R326 for the CB table). -/
def State.modifyR8 (s : State) (r : R8) (g : Byte → Bool → Flagged) : State :=
  let x := g (s.cpu.r8 r) s.cpu.cf
  (s.setR8 r x.val).setFlagsOf x

/-- A step that rewrites the byte at HL, read into `tmp` a step before, with the flags of the result (R271, R273,
R326). -/
def modifyHl (g : Byte → Bool → Flagged) : Action :=
  writes State.atHl (fun s => (g s.scratch.tmp s.cpu.cf).val) fun s t => t.setFlagsOf (g s.scratch.tmp s.cpu.cf)

/-- `INC r` (R270). -/
def incR (r : R8) : List Action := [act fun s => s.modifyR8 r inc8]

/-- `INC (HL)` (R271). -/
def incM : List Action := [idle, readHlTmp, modifyHl inc8]

/-- `DEC r` (R272). -/
def decR (r : R8) : List Action := [act fun s => s.modifyR8 r dec8]

/-- `DEC (HL)` (R273). -/
def decM : List Action := [idle, readHlTmp, modifyHl dec8]

/-- `DAA` (R274). -/
def daaTable : List Action :=
  [act fun s =>
     let r := daa8 s.cpu.a s.cpu.nf s.cpu.hf s.cpu.cf
     (s.setR8 .a r.val).setFlagsOf r]

/-- `CPL` (R275). -/
def cplTable : List Action := [act fun s => (s.setR8 .a (~~~s.cpu.a)).setFlags s.cpu.zf true true s.cpu.cf]

/-- `SCF` (R276). -/
def scfTable : List Action := [act fun s => s.setFlags s.cpu.zf false false true]

/-- `CCF` (R277). -/
def ccfTable : List Action := [act fun s => s.setFlags s.cpu.zf false false (!s.cpu.cf)]

/-! ### The instructions -/

/-- `INC B` (R270). -/
def exec_inc_b (s : State) : Result := runTable (incR .b) s

/-- `DEC B` (R272). -/
def exec_dec_b (s : State) : Result := runTable (decR .b) s

/-- `INC C` (R270). -/
def exec_inc_c (s : State) : Result := runTable (incR .c) s

/-- `DEC C` (R272). -/
def exec_dec_c (s : State) : Result := runTable (decR .c) s

/-- `INC D` (R270). -/
def exec_inc_d (s : State) : Result := runTable (incR .d) s

/-- `DEC D` (R272). -/
def exec_dec_d (s : State) : Result := runTable (decR .d) s

/-- `INC E` (R270). -/
def exec_inc_e (s : State) : Result := runTable (incR .e) s

/-- `DEC E` (R272). -/
def exec_dec_e (s : State) : Result := runTable (decR .e) s

/-- `INC H` (R270). -/
def exec_inc_h (s : State) : Result := runTable (incR .h) s

/-- `DEC H` (R272). -/
def exec_dec_h (s : State) : Result := runTable (decR .h) s

/-- `DAA` (R274). -/
def exec_daa (s : State) : Result := runTable daaTable s

/-- `INC L` (R270). -/
def exec_inc_l (s : State) : Result := runTable (incR .l) s

/-- `DEC L` (R272). -/
def exec_dec_l (s : State) : Result := runTable (decR .l) s

/-- `CPL` (R275). -/
def exec_cpl (s : State) : Result := runTable cplTable s

/-- `INC (HL)` (R271). -/
def exec_inc_mhl (s : State) : Result := runTable incM s

/-- `DEC (HL)` (R273). -/
def exec_dec_mhl (s : State) : Result := runTable decM s

/-- `SCF` (R276). -/
def exec_scf (s : State) : Result := runTable scfTable s

/-- `INC A` (R270). -/
def exec_inc_a (s : State) : Result := runTable (incR .a) s

/-- `DEC A` (R272). -/
def exec_dec_a (s : State) : Result := runTable (decR .a) s

/-- `CCF` (R277). -/
def exec_ccf (s : State) : Result := runTable ccfTable s

/-- `ADD A,B` (R261). -/
def exec_add_a_b (s : State) : Result := runTable (aluR .add .b) s

/-- `ADD A,C` (R261). -/
def exec_add_a_c (s : State) : Result := runTable (aluR .add .c) s

/-- `ADD A,D` (R261). -/
def exec_add_a_d (s : State) : Result := runTable (aluR .add .d) s

/-- `ADD A,E` (R261). -/
def exec_add_a_e (s : State) : Result := runTable (aluR .add .e) s

/-- `ADD A,H` (R261). -/
def exec_add_a_h (s : State) : Result := runTable (aluR .add .h) s

/-- `ADD A,L` (R261). -/
def exec_add_a_l (s : State) : Result := runTable (aluR .add .l) s

/-- `ADD A,(HL)` (R261). -/
def exec_add_a_mhl (s : State) : Result := runTable (aluM .add) s

/-- `ADD A,A` (R261). -/
def exec_add_a_a (s : State) : Result := runTable (aluR .add .a) s

/-- `ADC A,B` (R262). -/
def exec_adc_a_b (s : State) : Result := runTable (aluR .adc .b) s

/-- `ADC A,C` (R262). -/
def exec_adc_a_c (s : State) : Result := runTable (aluR .adc .c) s

/-- `ADC A,D` (R262). -/
def exec_adc_a_d (s : State) : Result := runTable (aluR .adc .d) s

/-- `ADC A,E` (R262). -/
def exec_adc_a_e (s : State) : Result := runTable (aluR .adc .e) s

/-- `ADC A,H` (R262). -/
def exec_adc_a_h (s : State) : Result := runTable (aluR .adc .h) s

/-- `ADC A,L` (R262). -/
def exec_adc_a_l (s : State) : Result := runTable (aluR .adc .l) s

/-- `ADC A,(HL)` (R262). -/
def exec_adc_a_mhl (s : State) : Result := runTable (aluM .adc) s

/-- `ADC A,A` (R262). -/
def exec_adc_a_a (s : State) : Result := runTable (aluR .adc .a) s

/-- `SUB A,B` (R263). -/
def exec_sub_a_b (s : State) : Result := runTable (aluR .sub .b) s

/-- `SUB A,C` (R263). -/
def exec_sub_a_c (s : State) : Result := runTable (aluR .sub .c) s

/-- `SUB A,D` (R263). -/
def exec_sub_a_d (s : State) : Result := runTable (aluR .sub .d) s

/-- `SUB A,E` (R263). -/
def exec_sub_a_e (s : State) : Result := runTable (aluR .sub .e) s

/-- `SUB A,H` (R263). -/
def exec_sub_a_h (s : State) : Result := runTable (aluR .sub .h) s

/-- `SUB A,L` (R263). -/
def exec_sub_a_l (s : State) : Result := runTable (aluR .sub .l) s

/-- `SUB A,(HL)` (R263). -/
def exec_sub_a_mhl (s : State) : Result := runTable (aluM .sub) s

/-- `SUB A,A` (R263). -/
def exec_sub_a_a (s : State) : Result := runTable (aluR .sub .a) s

/-- `SBC A,B` (R264). -/
def exec_sbc_a_b (s : State) : Result := runTable (aluR .sbc .b) s

/-- `SBC A,C` (R264). -/
def exec_sbc_a_c (s : State) : Result := runTable (aluR .sbc .c) s

/-- `SBC A,D` (R264). -/
def exec_sbc_a_d (s : State) : Result := runTable (aluR .sbc .d) s

/-- `SBC A,E` (R264). -/
def exec_sbc_a_e (s : State) : Result := runTable (aluR .sbc .e) s

/-- `SBC A,H` (R264). -/
def exec_sbc_a_h (s : State) : Result := runTable (aluR .sbc .h) s

/-- `SBC A,L` (R264). -/
def exec_sbc_a_l (s : State) : Result := runTable (aluR .sbc .l) s

/-- `SBC A,(HL)` (R264). -/
def exec_sbc_a_mhl (s : State) : Result := runTable (aluM .sbc) s

/-- `SBC A,A` (R264). -/
def exec_sbc_a_a (s : State) : Result := runTable (aluR .sbc .a) s

/-- `AND A,B` (R265). -/
def exec_and_a_b (s : State) : Result := runTable (aluR .and .b) s

/-- `AND A,C` (R265). -/
def exec_and_a_c (s : State) : Result := runTable (aluR .and .c) s

/-- `AND A,D` (R265). -/
def exec_and_a_d (s : State) : Result := runTable (aluR .and .d) s

/-- `AND A,E` (R265). -/
def exec_and_a_e (s : State) : Result := runTable (aluR .and .e) s

/-- `AND A,H` (R265). -/
def exec_and_a_h (s : State) : Result := runTable (aluR .and .h) s

/-- `AND A,L` (R265). -/
def exec_and_a_l (s : State) : Result := runTable (aluR .and .l) s

/-- `AND A,(HL)` (R265). -/
def exec_and_a_mhl (s : State) : Result := runTable (aluM .and) s

/-- `AND A,A` (R265). -/
def exec_and_a_a (s : State) : Result := runTable (aluR .and .a) s

/-- `XOR A,B` (R266). -/
def exec_xor_a_b (s : State) : Result := runTable (aluR .xor .b) s

/-- `XOR A,C` (R266). -/
def exec_xor_a_c (s : State) : Result := runTable (aluR .xor .c) s

/-- `XOR A,D` (R266). -/
def exec_xor_a_d (s : State) : Result := runTable (aluR .xor .d) s

/-- `XOR A,E` (R266). -/
def exec_xor_a_e (s : State) : Result := runTable (aluR .xor .e) s

/-- `XOR A,H` (R266). -/
def exec_xor_a_h (s : State) : Result := runTable (aluR .xor .h) s

/-- `XOR A,L` (R266). -/
def exec_xor_a_l (s : State) : Result := runTable (aluR .xor .l) s

/-- `XOR A,(HL)` (R266). -/
def exec_xor_a_mhl (s : State) : Result := runTable (aluM .xor) s

/-- `XOR A,A` (R266). -/
def exec_xor_a_a (s : State) : Result := runTable (aluR .xor .a) s

/-- `OR A,B` (R267). -/
def exec_or_a_b (s : State) : Result := runTable (aluR .or .b) s

/-- `OR A,C` (R267). -/
def exec_or_a_c (s : State) : Result := runTable (aluR .or .c) s

/-- `OR A,D` (R267). -/
def exec_or_a_d (s : State) : Result := runTable (aluR .or .d) s

/-- `OR A,E` (R267). -/
def exec_or_a_e (s : State) : Result := runTable (aluR .or .e) s

/-- `OR A,H` (R267). -/
def exec_or_a_h (s : State) : Result := runTable (aluR .or .h) s

/-- `OR A,L` (R267). -/
def exec_or_a_l (s : State) : Result := runTable (aluR .or .l) s

/-- `OR A,(HL)` (R267). -/
def exec_or_a_mhl (s : State) : Result := runTable (aluM .or) s

/-- `OR A,A` (R267). -/
def exec_or_a_a (s : State) : Result := runTable (aluR .or .a) s

/-- `CP A,B` (R268). -/
def exec_cp_a_b (s : State) : Result := runTable (aluR .cp .b) s

/-- `CP A,C` (R268). -/
def exec_cp_a_c (s : State) : Result := runTable (aluR .cp .c) s

/-- `CP A,D` (R268). -/
def exec_cp_a_d (s : State) : Result := runTable (aluR .cp .d) s

/-- `CP A,E` (R268). -/
def exec_cp_a_e (s : State) : Result := runTable (aluR .cp .e) s

/-- `CP A,H` (R268). -/
def exec_cp_a_h (s : State) : Result := runTable (aluR .cp .h) s

/-- `CP A,L` (R268). -/
def exec_cp_a_l (s : State) : Result := runTable (aluR .cp .l) s

/-- `CP A,(HL)` (R268). -/
def exec_cp_a_mhl (s : State) : Result := runTable (aluM .cp) s

/-- `CP A,A` (R268). -/
def exec_cp_a_a (s : State) : Result := runTable (aluR .cp .a) s

/-- `ADD A,n` (R261). -/
def exec_add_a_n (s : State) : Result := runTable (aluN .add) s

/-- `ADC A,n` (R262). -/
def exec_adc_a_n (s : State) : Result := runTable (aluN .adc) s

/-- `SUB A,n` (R263). -/
def exec_sub_a_n (s : State) : Result := runTable (aluN .sub) s

/-- `SBC A,n` (R264). -/
def exec_sbc_a_n (s : State) : Result := runTable (aluN .sbc) s

/-- `AND A,n` (R265). -/
def exec_and_a_n (s : State) : Result := runTable (aluN .and) s

/-- `XOR A,n` (R266). -/
def exec_xor_a_n (s : State) : Result := runTable (aluN .xor) s

/-- `OR A,n` (R267). -/
def exec_or_a_n (s : State) : Result := runTable (aluN .or) s

/-- `CP A,n` (R268). -/
def exec_cp_a_n (s : State) : Result := runTable (aluN .cp) s

end Sys2Proof.Machine
end

