-- ==== Sys2Proof/Machine/Control.lean ====
section
/-! DEFINITION. Control transfer (46_control.md R360 to R374). No flag is written (R372). -/

namespace Sys2Proof.Machine

/-- `PC <- PC + sext_16(tmp)`: the displacement counts from the byte after the instruction (R364). -/
def State.jumpRel (s : State) : State := s.setPc (s.cpu.pc + sext16 s.scratch.tmp)

/-- The return address of a call: PC (R366, R373). -/
def State.retAddr (s : State) : Word := s.cpu.pc

/-- `JP nn` (R361). -/
def jpNn : List Action := [idle, readLo, readHi, act State.jumpHiLo]

/-- `JP cc,nn` (R362). -/
def jpCc (cc : Cond) : List Action := [idle, readLo, decideRead cc State.setHi, act State.jumpHiLo]

/-- `JP HL` (R363). -/
def jpHl : List Action := [act fun s => s.setPc s.cpu.hl]

/-- `JR e` (R364). -/
def jrE : List Action := [idle, readTmp, act State.jumpRel]

/-- `JR cc,e` (R365). -/
def jrCc (cc : Cond) : List Action := [idle, decideRead cc State.setTmp, act State.jumpRel]

/-- `CALL nn` (R366). -/
def callNn : List Action :=
  [idle, readLo, readHi, pushA, pushB State.retAddr, pushC State.retAddr State.jumpHiLo]

/-- `CALL cc,nn` (R367). -/
def callCc (cc : Cond) : List Action :=
  [idle, readLo, decideRead cc State.setHi, pushA, pushB State.retAddr, pushC State.retAddr State.jumpHiLo]

/-- `RET` (R368). -/
def retTable : List Action := [idle, popA, popB, act State.jumpHiLo]

/-- `RET cc` (R369). -/
def retCc (cc : Cond) : List Action := [idle, decideStep cc, popA, popB, act State.jumpHiLo]

/-- The restart vector of op[5:3] (R123, R373). -/
def rstTarget (y : Fin 8) : Word := BitVec.ofNat 16 (8 * y.val)

/-- `RST t` (R373). -/
def rstTable (y : Fin 8) : List Action :=
  [idle, pushA, pushB State.retAddr, pushC State.retAddr fun s => s.setPc (rstTarget y)]

/-! ### The instructions -/

/-- `JR e` (R364). -/
def exec_jr_e (s : State) : Result := runTable jrE s

/-- `JR NZ,e` (R365). -/
def exec_jr_nz_e (s : State) : Result := runTable (jrCc .nz) s

/-- `JR Z,e` (R365). -/
def exec_jr_z_e (s : State) : Result := runTable (jrCc .z) s

/-- `JR NC,e` (R365). -/
def exec_jr_nc_e (s : State) : Result := runTable (jrCc .nc) s

/-- `JR C,e` (R365). -/
def exec_jr_c_e (s : State) : Result := runTable (jrCc .c) s

/-- `RET NZ` (R369). -/
def exec_ret_nz (s : State) : Result := runTable (retCc .nz) s

/-- `JP NZ,nn` (R362). -/
def exec_jp_nz_nn (s : State) : Result := runTable (jpCc .nz) s

/-- `JP nn` (R361). -/
def exec_jp_nn (s : State) : Result := runTable jpNn s

/-- `CALL NZ,nn` (R367). -/
def exec_call_nz_nn (s : State) : Result := runTable (callCc .nz) s

/-- `RST 00H` (R373). -/
def exec_rst_00h (s : State) : Result := runTable (rstTable 0) s

/-- `RET Z` (R369). -/
def exec_ret_z (s : State) : Result := runTable (retCc .z) s

/-- `RET` (R368). -/
def exec_ret (s : State) : Result := runTable retTable s

/-- `JP Z,nn` (R362). -/
def exec_jp_z_nn (s : State) : Result := runTable (jpCc .z) s

/-- `CALL Z,nn` (R367). -/
def exec_call_z_nn (s : State) : Result := runTable (callCc .z) s

/-- `CALL nn` (R366). -/
def exec_call_nn (s : State) : Result := runTable callNn s

/-- `RST 08H` (R373). -/
def exec_rst_08h (s : State) : Result := runTable (rstTable 1) s

/-- `RET NC` (R369). -/
def exec_ret_nc (s : State) : Result := runTable (retCc .nc) s

/-- `JP NC,nn` (R362). -/
def exec_jp_nc_nn (s : State) : Result := runTable (jpCc .nc) s

/-- `CALL NC,nn` (R367). -/
def exec_call_nc_nn (s : State) : Result := runTable (callCc .nc) s

/-- `RST 10H` (R373). -/
def exec_rst_10h (s : State) : Result := runTable (rstTable 2) s

/-- `RET C` (R369). -/
def exec_ret_c (s : State) : Result := runTable (retCc .c) s

/-- `RETI` (R370). -/
def exec_reti (s : State) : Result := runTable retiTable s

/-- `JP C,nn` (R362). -/
def exec_jp_c_nn (s : State) : Result := runTable (jpCc .c) s

/-- `CALL C,nn` (R367). -/
def exec_call_c_nn (s : State) : Result := runTable (callCc .c) s

/-- `RST 18H` (R373). -/
def exec_rst_18h (s : State) : Result := runTable (rstTable 3) s

/-- `RST 20H` (R373). -/
def exec_rst_20h (s : State) : Result := runTable (rstTable 4) s

/-- `JP HL` (R363). -/
def exec_jp_hl (s : State) : Result := runTable jpHl s

/-- `RST 28H` (R373). -/
def exec_rst_28h (s : State) : Result := runTable (rstTable 5) s

/-- `RST 30H` (R373). -/
def exec_rst_30h (s : State) : Result := runTable (rstTable 6) s

/-- `RST 38H` (R373). -/
def exec_rst_38h (s : State) : Result := runTable (rstTable 7) s

end Sys2Proof.Machine
end

