-- ==== Sys2Proof/Machine/Load16.lean ====
section
/-! DEFINITION. 16-bit loads and stack operations (42_load16_stack.md R230 to R241). -/

namespace Sys2Proof.Machine

/-- `LD rr,nn` (R230). -/
def ldRpNn (p : Rp) : List Action := [idle, readLo, operand fun s h => (s.setHi h).setRp p (cat h s.scratch.lo)]

/-- `LD SP,HL` (R231). -/
def ldSpHl : List Action := [idle, act fun s => s.setSp s.cpu.hl]

/-- `PUSH rr` (R232, R233). -/
def pushRp2 (p : Rp2) : List Action :=
  [idle, pushA, pushB fun s => s.cpu.rp2 p, pushC (fun s => s.cpu.rp2 p) id]

/-- `POP rr` (R235, R236): AF is written with the low nibble of F cleared. -/
def popRp2 (p : Rp2) : List Action :=
  [idle, popA, reads State.atSp fun s v => ((s.setHi v).incSp).setRp2 p (cat v s.scratch.lo)]

/-- `LD HL,SP+e` (R238, R239). -/
def ldHlSpE : List Action :=
  [idle, readTmp,
   act fun s =>
     let r := spAdd s.cpu.sp s.scratch.tmp
     (s.setHl r.val).setFlags false false r.h r.c]

/-- `LD (nn),SP` (R240). -/
def ldNnSp : List Action :=
  [idle, readLo, readHi,
   writes State.hiLo fun s => lo s.cpu.sp,
   writes (fun s => s.hiLo + 1) fun s => hi s.cpu.sp]

/-! ### The instructions -/

/-- `LD BC,nn` (R230). -/
def exec_ld_bc_nn (s : State) : Result := runTable (ldRpNn .bc) s

/-- `LD (nn),SP` (R240). -/
def exec_ld_mnn_sp (s : State) : Result := runTable ldNnSp s

/-- `LD DE,nn` (R230). -/
def exec_ld_de_nn (s : State) : Result := runTable (ldRpNn .de) s

/-- `LD HL,nn` (R230). -/
def exec_ld_hl_nn (s : State) : Result := runTable (ldRpNn .hl) s

/-- `LD SP,nn` (R230). -/
def exec_ld_sp_nn (s : State) : Result := runTable (ldRpNn .sp) s

/-- `POP BC` (R235). -/
def exec_pop_bc (s : State) : Result := runTable (popRp2 .bc) s

/-- `PUSH BC` (R232). -/
def exec_push_bc (s : State) : Result := runTable (pushRp2 .bc) s

/-- `POP DE` (R235). -/
def exec_pop_de (s : State) : Result := runTable (popRp2 .de) s

/-- `PUSH DE` (R232). -/
def exec_push_de (s : State) : Result := runTable (pushRp2 .de) s

/-- `POP HL` (R235). -/
def exec_pop_hl (s : State) : Result := runTable (popRp2 .hl) s

/-- `PUSH HL` (R232). -/
def exec_push_hl (s : State) : Result := runTable (pushRp2 .hl) s

/-- `POP AF` (R236). -/
def exec_pop_af (s : State) : Result := runTable (popRp2 .af) s

/-- `PUSH AF` (R233). -/
def exec_push_af (s : State) : Result := runTable (pushRp2 .af) s

/-- `LD HL,SP+e` (R239). -/
def exec_ld_hl_spe (s : State) : Result := runTable ldHlSpE s

/-- `LD SP,HL` (R231). -/
def exec_ld_sp_hl (s : State) : Result := runTable ldSpHl s

end Sys2Proof.Machine
end

