-- ==== Sys2Proof/Machine/Load8.lean ====
section
/-! DEFINITION. 8-bit loads and stores (41_load8.md R200 to R219): one step table for each form, one meaning for
each instruction. The first step of every table is the fetch of R165. -/

namespace Sys2Proof.Machine

/-- `LD r,r'` (R200). -/
def ldRR (dst src : R8) : List Action := [act fun s => s.setR8 dst (s.cpu.r8 src)]

/-- `LD r,n` (R201). -/
def ldRN (dst : R8) : List Action := [idle, operand fun s n => s.setR8 dst n]

/-- `LD r,(HL)` (R202): the old HL is the address. -/
def ldRM (dst : R8) : List Action := [idle, reads State.atHl fun s v => s.setR8 dst v]

/-- `LD (HL),r` (R203). -/
def ldMR (src : R8) : List Action := [idle, writes State.atHl fun s => s.cpu.r8 src]

/-- `LD (HL),n` (R204). -/
def ldMN : List Action := [idle, readTmp, writes State.atHl fun s => s.scratch.tmp]

/-- `LD A,(rr)` for BC and DE (R205, R206). -/
def ldAFrom (addr : Cpu → Word) : List Action := [idle, reads (fun s => addr s.cpu) fun s v => s.setR8 .a v]

/-- `LD (rr),A` for BC and DE (R207, R208). -/
def ldToA (addr : Cpu → Word) : List Action := [idle, writes (fun s => addr s.cpu) fun s => s.cpu.a]

/-- `LD A,(nn)` (R209). -/
def ldANn : List Action := [idle, readLo, readHi, reads State.hiLo fun s v => s.setR8 .a v]

/-- `LD (nn),A` (R210). -/
def ldNnA : List Action := [idle, readLo, readHi, writes State.hiLo fun s => s.cpu.a]

/-- The address of register C in page 0xFF (R123). -/
def Cpu.pageC (p : Cpu) : Word := cat 0xFF p.c

/-- The address of the operand byte in page 0xFF (R123). -/
def State.pageTmp (s : State) : Word := cat 0xFF s.scratch.tmp

/-- `LDH A,(n)` (R213). -/
def ldhAN : List Action := [idle, readTmp, reads State.pageTmp fun s v => s.setR8 .a v]

/-- `LDH (n),A` (R214). -/
def ldhNA : List Action := [idle, readTmp, writes State.pageTmp fun s => s.cpu.a]

/-- `LD A,(HL-)` and `LD A,(HL+)`: the load, then HL moves by `step` (R215, R217). -/
def ldAHlStep (step : Word) : List Action :=
  [idle, reads State.atHl fun s v => (s.setR8 .a v).setHl (s.cpu.hl + step)]

/-- `LD (HL-),A` and `LD (HL+),A`: the store, then HL moves by `step` (R216, R218). -/
def ldHlStepA (step : Word) : List Action :=
  [idle, writes State.atHl (fun s => s.cpu.a) fun s t => t.setHl (s.cpu.hl + step)]

/-! ### The instructions -/

/-- `LD (BC),A` (R207). -/
def exec_ld_mbc_a (s : State) : Result := runTable (ldToA Cpu.bc) s

/-- `LD B,n` (R201). -/
def exec_ld_b_n (s : State) : Result := runTable (ldRN .b) s

/-- `LD A,(BC)` (R205). -/
def exec_ld_a_mbc (s : State) : Result := runTable (ldAFrom Cpu.bc) s

/-- `LD C,n` (R201). -/
def exec_ld_c_n (s : State) : Result := runTable (ldRN .c) s

/-- `LD (DE),A` (R208). -/
def exec_ld_mde_a (s : State) : Result := runTable (ldToA Cpu.de) s

/-- `LD D,n` (R201). -/
def exec_ld_d_n (s : State) : Result := runTable (ldRN .d) s

/-- `LD A,(DE)` (R206). -/
def exec_ld_a_mde (s : State) : Result := runTable (ldAFrom Cpu.de) s

/-- `LD E,n` (R201). -/
def exec_ld_e_n (s : State) : Result := runTable (ldRN .e) s

/-- `LD (HL+),A` (R218). -/
def exec_ld_mhli_a (s : State) : Result := runTable (ldHlStepA 1) s

/-- `LD H,n` (R201). -/
def exec_ld_h_n (s : State) : Result := runTable (ldRN .h) s

/-- `LD A,(HL+)` (R217). -/
def exec_ld_a_mhli (s : State) : Result := runTable (ldAHlStep 1) s

/-- `LD L,n` (R201). -/
def exec_ld_l_n (s : State) : Result := runTable (ldRN .l) s

/-- `LD (HL-),A` (R216). -/
def exec_ld_mhld_a (s : State) : Result := runTable (ldHlStepA (-1)) s

/-- `LD (HL),n` (R204). -/
def exec_ld_mhl_n (s : State) : Result := runTable ldMN s

/-- `LD A,(HL-)` (R215). -/
def exec_ld_a_mhld (s : State) : Result := runTable (ldAHlStep (-1)) s

/-- `LD A,n` (R201). -/
def exec_ld_a_n (s : State) : Result := runTable (ldRN .a) s

/-- `LD B,B` (R200). -/
def exec_ld_b_b (s : State) : Result := runTable (ldRR .b .b) s

/-- `LD B,C` (R200). -/
def exec_ld_b_c (s : State) : Result := runTable (ldRR .b .c) s

/-- `LD B,D` (R200). -/
def exec_ld_b_d (s : State) : Result := runTable (ldRR .b .d) s

/-- `LD B,E` (R200). -/
def exec_ld_b_e (s : State) : Result := runTable (ldRR .b .e) s

/-- `LD B,H` (R200). -/
def exec_ld_b_h (s : State) : Result := runTable (ldRR .b .h) s

/-- `LD B,L` (R200). -/
def exec_ld_b_l (s : State) : Result := runTable (ldRR .b .l) s

/-- `LD B,(HL)` (R202). -/
def exec_ld_b_mhl (s : State) : Result := runTable (ldRM .b) s

/-- `LD B,A` (R200). -/
def exec_ld_b_a (s : State) : Result := runTable (ldRR .b .a) s

/-- `LD C,B` (R200). -/
def exec_ld_c_b (s : State) : Result := runTable (ldRR .c .b) s

/-- `LD C,C` (R200). -/
def exec_ld_c_c (s : State) : Result := runTable (ldRR .c .c) s

/-- `LD C,D` (R200). -/
def exec_ld_c_d (s : State) : Result := runTable (ldRR .c .d) s

/-- `LD C,E` (R200). -/
def exec_ld_c_e (s : State) : Result := runTable (ldRR .c .e) s

/-- `LD C,H` (R200). -/
def exec_ld_c_h (s : State) : Result := runTable (ldRR .c .h) s

/-- `LD C,L` (R200). -/
def exec_ld_c_l (s : State) : Result := runTable (ldRR .c .l) s

/-- `LD C,(HL)` (R202). -/
def exec_ld_c_mhl (s : State) : Result := runTable (ldRM .c) s

/-- `LD C,A` (R200). -/
def exec_ld_c_a (s : State) : Result := runTable (ldRR .c .a) s

/-- `LD D,B` (R200). -/
def exec_ld_d_b (s : State) : Result := runTable (ldRR .d .b) s

/-- `LD D,C` (R200). -/
def exec_ld_d_c (s : State) : Result := runTable (ldRR .d .c) s

/-- `LD D,D` (R200). -/
def exec_ld_d_d (s : State) : Result := runTable (ldRR .d .d) s

/-- `LD D,E` (R200). -/
def exec_ld_d_e (s : State) : Result := runTable (ldRR .d .e) s

/-- `LD D,H` (R200). -/
def exec_ld_d_h (s : State) : Result := runTable (ldRR .d .h) s

/-- `LD D,L` (R200). -/
def exec_ld_d_l (s : State) : Result := runTable (ldRR .d .l) s

/-- `LD D,(HL)` (R202). -/
def exec_ld_d_mhl (s : State) : Result := runTable (ldRM .d) s

/-- `LD D,A` (R200). -/
def exec_ld_d_a (s : State) : Result := runTable (ldRR .d .a) s

/-- `LD E,B` (R200). -/
def exec_ld_e_b (s : State) : Result := runTable (ldRR .e .b) s

/-- `LD E,C` (R200). -/
def exec_ld_e_c (s : State) : Result := runTable (ldRR .e .c) s

/-- `LD E,D` (R200). -/
def exec_ld_e_d (s : State) : Result := runTable (ldRR .e .d) s

/-- `LD E,E` (R200). -/
def exec_ld_e_e (s : State) : Result := runTable (ldRR .e .e) s

/-- `LD E,H` (R200). -/
def exec_ld_e_h (s : State) : Result := runTable (ldRR .e .h) s

/-- `LD E,L` (R200). -/
def exec_ld_e_l (s : State) : Result := runTable (ldRR .e .l) s

/-- `LD E,(HL)` (R202). -/
def exec_ld_e_mhl (s : State) : Result := runTable (ldRM .e) s

/-- `LD E,A` (R200). -/
def exec_ld_e_a (s : State) : Result := runTable (ldRR .e .a) s

/-- `LD H,B` (R200). -/
def exec_ld_h_b (s : State) : Result := runTable (ldRR .h .b) s

/-- `LD H,C` (R200). -/
def exec_ld_h_c (s : State) : Result := runTable (ldRR .h .c) s

/-- `LD H,D` (R200). -/
def exec_ld_h_d (s : State) : Result := runTable (ldRR .h .d) s

/-- `LD H,E` (R200). -/
def exec_ld_h_e (s : State) : Result := runTable (ldRR .h .e) s

/-- `LD H,H` (R200). -/
def exec_ld_h_h (s : State) : Result := runTable (ldRR .h .h) s

/-- `LD H,L` (R200). -/
def exec_ld_h_l (s : State) : Result := runTable (ldRR .h .l) s

/-- `LD H,(HL)` (R202). -/
def exec_ld_h_mhl (s : State) : Result := runTable (ldRM .h) s

/-- `LD H,A` (R200). -/
def exec_ld_h_a (s : State) : Result := runTable (ldRR .h .a) s

/-- `LD L,B` (R200). -/
def exec_ld_l_b (s : State) : Result := runTable (ldRR .l .b) s

/-- `LD L,C` (R200). -/
def exec_ld_l_c (s : State) : Result := runTable (ldRR .l .c) s

/-- `LD L,D` (R200). -/
def exec_ld_l_d (s : State) : Result := runTable (ldRR .l .d) s

/-- `LD L,E` (R200). -/
def exec_ld_l_e (s : State) : Result := runTable (ldRR .l .e) s

/-- `LD L,H` (R200). -/
def exec_ld_l_h (s : State) : Result := runTable (ldRR .l .h) s

/-- `LD L,L` (R200). -/
def exec_ld_l_l (s : State) : Result := runTable (ldRR .l .l) s

/-- `LD L,(HL)` (R202). -/
def exec_ld_l_mhl (s : State) : Result := runTable (ldRM .l) s

/-- `LD L,A` (R200). -/
def exec_ld_l_a (s : State) : Result := runTable (ldRR .l .a) s

/-- `LD (HL),B` (R203). -/
def exec_ld_mhl_b (s : State) : Result := runTable (ldMR .b) s

/-- `LD (HL),C` (R203). -/
def exec_ld_mhl_c (s : State) : Result := runTable (ldMR .c) s

/-- `LD (HL),D` (R203). -/
def exec_ld_mhl_d (s : State) : Result := runTable (ldMR .d) s

/-- `LD (HL),E` (R203). -/
def exec_ld_mhl_e (s : State) : Result := runTable (ldMR .e) s

/-- `LD (HL),H` (R203). -/
def exec_ld_mhl_h (s : State) : Result := runTable (ldMR .h) s

/-- `LD (HL),L` (R203). -/
def exec_ld_mhl_l (s : State) : Result := runTable (ldMR .l) s

/-- `LD (HL),A` (R203). -/
def exec_ld_mhl_a (s : State) : Result := runTable (ldMR .a) s

/-- `LD A,B` (R200). -/
def exec_ld_a_b (s : State) : Result := runTable (ldRR .a .b) s

/-- `LD A,C` (R200). -/
def exec_ld_a_c (s : State) : Result := runTable (ldRR .a .c) s

/-- `LD A,D` (R200). -/
def exec_ld_a_d (s : State) : Result := runTable (ldRR .a .d) s

/-- `LD A,E` (R200). -/
def exec_ld_a_e (s : State) : Result := runTable (ldRR .a .e) s

/-- `LD A,H` (R200). -/
def exec_ld_a_h (s : State) : Result := runTable (ldRR .a .h) s

/-- `LD A,L` (R200). -/
def exec_ld_a_l (s : State) : Result := runTable (ldRR .a .l) s

/-- `LD A,(HL)` (R202). -/
def exec_ld_a_mhl (s : State) : Result := runTable (ldRM .a) s

/-- `LD A,A` (R200). -/
def exec_ld_a_a (s : State) : Result := runTable (ldRR .a .a) s

/-- `LDH (n),A` (R214). -/
def exec_ldh_mn_a (s : State) : Result := runTable ldhNA s

/-- `LDH (C),A` (R212). -/
def exec_ldh_mc_a (s : State) : Result := runTable (ldToA Cpu.pageC) s

/-- `LD (nn),A` (R210). -/
def exec_ld_mnn_a (s : State) : Result := runTable ldNnA s

/-- `LDH A,(n)` (R213). -/
def exec_ldh_a_mn (s : State) : Result := runTable ldhAN s

/-- `LDH A,(C)` (R211). -/
def exec_ldh_a_mc (s : State) : Result := runTable (ldAFrom Cpu.pageC) s

/-- `LD A,(nn)` (R209). -/
def exec_ld_a_mnn (s : State) : Result := runTable ldANn s

end Sys2Proof.Machine
end

