-- ==== Sys2Proof/Machine/Rotate.lean ====
section
/-! DEFINITION. Rotates, shifts and bit operations (45_rotate_shift_bit.md R320 to R337). The first two steps of a
table of the CB group are the fetches of R165 and R166. -/

namespace Sys2Proof.Machine

/-- An accumulator rotate (R321 to R324). -/
def rotAcc (op : RotOp) : List Action := [act fun s => s.modifyR8 .a (rotAccFlagged op)]

/-- A rotate or shift of a register (R320, R325 to R334). -/
def rotR (op : RotOp) (r : R8) : List Action := [idle, act fun s => s.modifyR8 r (rotFlagged op)]

/-- A rotate or shift of the byte at HL (R320, R325 to R334). -/
def rotM (op : RotOp) : List Action := [idle, idle, readHlTmp, modifyHl (rotFlagged op)]

/-- `BIT b,r` (R335). -/
def bitR (b : Fin 8) (r : R8) : List Action :=
  [idle, act fun s => s.setFlagsOf (bitFlags b (s.cpu.r8 r) s.cpu.cf)]

/-- `BIT b,(HL)` (R335): three steps, no write. -/
def bitM (b : Fin 8) : List Action :=
  [idle, idle,
   reads State.atHl fun s v => (s.setTmp v).setFlagsOf (bitFlags b v s.cpu.cf)]

/-- `RES b,r` and `SET b,r`: no flags (R336, R337). -/
def modBitR (r : R8) (g : Byte → Byte) : List Action := [idle, act fun s => s.setR8 r (g (s.cpu.r8 r))]

/-- `RES b,(HL)` and `SET b,(HL)`: no flags (R336, R337). -/
def modBitM (g : Byte → Byte) : List Action :=
  [idle, idle, readHlTmp, writes State.atHl fun s => g s.scratch.tmp]

/-! ### The instructions -/

/-- `RLCA` (R321). -/
def exec_rlca (s : State) : Result := runTable (rotAcc .rlc) s

/-- `RRCA` (R322). -/
def exec_rrca (s : State) : Result := runTable (rotAcc .rrc) s

/-- `RLA` (R323). -/
def exec_rla (s : State) : Result := runTable (rotAcc .rl) s

/-- `RRA` (R324). -/
def exec_rra (s : State) : Result := runTable (rotAcc .rr) s

/-- `RLC B` (R327). -/
def exec_rlc_b (s : State) : Result := runTable (rotR .rlc .b) s

/-- `RLC C` (R327). -/
def exec_rlc_c (s : State) : Result := runTable (rotR .rlc .c) s

/-- `RLC D` (R327). -/
def exec_rlc_d (s : State) : Result := runTable (rotR .rlc .d) s

/-- `RLC E` (R327). -/
def exec_rlc_e (s : State) : Result := runTable (rotR .rlc .e) s

/-- `RLC H` (R327). -/
def exec_rlc_h (s : State) : Result := runTable (rotR .rlc .h) s

/-- `RLC L` (R327). -/
def exec_rlc_l (s : State) : Result := runTable (rotR .rlc .l) s

/-- `RLC (HL)` (R327). -/
def exec_rlc_mhl (s : State) : Result := runTable (rotM .rlc) s

/-- `RLC A` (R327). -/
def exec_rlc_a (s : State) : Result := runTable (rotR .rlc .a) s

/-- `RRC B` (R328). -/
def exec_rrc_b (s : State) : Result := runTable (rotR .rrc .b) s

/-- `RRC C` (R328). -/
def exec_rrc_c (s : State) : Result := runTable (rotR .rrc .c) s

/-- `RRC D` (R328). -/
def exec_rrc_d (s : State) : Result := runTable (rotR .rrc .d) s

/-- `RRC E` (R328). -/
def exec_rrc_e (s : State) : Result := runTable (rotR .rrc .e) s

/-- `RRC H` (R328). -/
def exec_rrc_h (s : State) : Result := runTable (rotR .rrc .h) s

/-- `RRC L` (R328). -/
def exec_rrc_l (s : State) : Result := runTable (rotR .rrc .l) s

/-- `RRC (HL)` (R328). -/
def exec_rrc_mhl (s : State) : Result := runTable (rotM .rrc) s

/-- `RRC A` (R328). -/
def exec_rrc_a (s : State) : Result := runTable (rotR .rrc .a) s

/-- `RL B` (R329). -/
def exec_rl_b (s : State) : Result := runTable (rotR .rl .b) s

/-- `RL C` (R329). -/
def exec_rl_c (s : State) : Result := runTable (rotR .rl .c) s

/-- `RL D` (R329). -/
def exec_rl_d (s : State) : Result := runTable (rotR .rl .d) s

/-- `RL E` (R329). -/
def exec_rl_e (s : State) : Result := runTable (rotR .rl .e) s

/-- `RL H` (R329). -/
def exec_rl_h (s : State) : Result := runTable (rotR .rl .h) s

/-- `RL L` (R329). -/
def exec_rl_l (s : State) : Result := runTable (rotR .rl .l) s

/-- `RL (HL)` (R329). -/
def exec_rl_mhl (s : State) : Result := runTable (rotM .rl) s

/-- `RL A` (R329). -/
def exec_rl_a (s : State) : Result := runTable (rotR .rl .a) s

/-- `RR B` (R330). -/
def exec_rr_b (s : State) : Result := runTable (rotR .rr .b) s

/-- `RR C` (R330). -/
def exec_rr_c (s : State) : Result := runTable (rotR .rr .c) s

/-- `RR D` (R330). -/
def exec_rr_d (s : State) : Result := runTable (rotR .rr .d) s

/-- `RR E` (R330). -/
def exec_rr_e (s : State) : Result := runTable (rotR .rr .e) s

/-- `RR H` (R330). -/
def exec_rr_h (s : State) : Result := runTable (rotR .rr .h) s

/-- `RR L` (R330). -/
def exec_rr_l (s : State) : Result := runTable (rotR .rr .l) s

/-- `RR (HL)` (R330). -/
def exec_rr_mhl (s : State) : Result := runTable (rotM .rr) s

/-- `RR A` (R330). -/
def exec_rr_a (s : State) : Result := runTable (rotR .rr .a) s

/-- `SLA B` (R331). -/
def exec_sla_b (s : State) : Result := runTable (rotR .sla .b) s

/-- `SLA C` (R331). -/
def exec_sla_c (s : State) : Result := runTable (rotR .sla .c) s

/-- `SLA D` (R331). -/
def exec_sla_d (s : State) : Result := runTable (rotR .sla .d) s

/-- `SLA E` (R331). -/
def exec_sla_e (s : State) : Result := runTable (rotR .sla .e) s

/-- `SLA H` (R331). -/
def exec_sla_h (s : State) : Result := runTable (rotR .sla .h) s

/-- `SLA L` (R331). -/
def exec_sla_l (s : State) : Result := runTable (rotR .sla .l) s

/-- `SLA (HL)` (R331). -/
def exec_sla_mhl (s : State) : Result := runTable (rotM .sla) s

/-- `SLA A` (R331). -/
def exec_sla_a (s : State) : Result := runTable (rotR .sla .a) s

/-- `SRA B` (R332). -/
def exec_sra_b (s : State) : Result := runTable (rotR .sra .b) s

/-- `SRA C` (R332). -/
def exec_sra_c (s : State) : Result := runTable (rotR .sra .c) s

/-- `SRA D` (R332). -/
def exec_sra_d (s : State) : Result := runTable (rotR .sra .d) s

/-- `SRA E` (R332). -/
def exec_sra_e (s : State) : Result := runTable (rotR .sra .e) s

/-- `SRA H` (R332). -/
def exec_sra_h (s : State) : Result := runTable (rotR .sra .h) s

/-- `SRA L` (R332). -/
def exec_sra_l (s : State) : Result := runTable (rotR .sra .l) s

/-- `SRA (HL)` (R332). -/
def exec_sra_mhl (s : State) : Result := runTable (rotM .sra) s

/-- `SRA A` (R332). -/
def exec_sra_a (s : State) : Result := runTable (rotR .sra .a) s

/-- `SWAP B` (R334). -/
def exec_swap_b (s : State) : Result := runTable (rotR .swap .b) s

/-- `SWAP C` (R334). -/
def exec_swap_c (s : State) : Result := runTable (rotR .swap .c) s

/-- `SWAP D` (R334). -/
def exec_swap_d (s : State) : Result := runTable (rotR .swap .d) s

/-- `SWAP E` (R334). -/
def exec_swap_e (s : State) : Result := runTable (rotR .swap .e) s

/-- `SWAP H` (R334). -/
def exec_swap_h (s : State) : Result := runTable (rotR .swap .h) s

/-- `SWAP L` (R334). -/
def exec_swap_l (s : State) : Result := runTable (rotR .swap .l) s

/-- `SWAP (HL)` (R334). -/
def exec_swap_mhl (s : State) : Result := runTable (rotM .swap) s

/-- `SWAP A` (R334). -/
def exec_swap_a (s : State) : Result := runTable (rotR .swap .a) s

/-- `SRL B` (R333). -/
def exec_srl_b (s : State) : Result := runTable (rotR .srl .b) s

/-- `SRL C` (R333). -/
def exec_srl_c (s : State) : Result := runTable (rotR .srl .c) s

/-- `SRL D` (R333). -/
def exec_srl_d (s : State) : Result := runTable (rotR .srl .d) s

/-- `SRL E` (R333). -/
def exec_srl_e (s : State) : Result := runTable (rotR .srl .e) s

/-- `SRL H` (R333). -/
def exec_srl_h (s : State) : Result := runTable (rotR .srl .h) s

/-- `SRL L` (R333). -/
def exec_srl_l (s : State) : Result := runTable (rotR .srl .l) s

/-- `SRL (HL)` (R333). -/
def exec_srl_mhl (s : State) : Result := runTable (rotM .srl) s

/-- `SRL A` (R333). -/
def exec_srl_a (s : State) : Result := runTable (rotR .srl .a) s

/-- `BIT 0,B` (R335). -/
def exec_bit_0_b (s : State) : Result := runTable (bitR 0 .b) s

/-- `BIT 0,C` (R335). -/
def exec_bit_0_c (s : State) : Result := runTable (bitR 0 .c) s

/-- `BIT 0,D` (R335). -/
def exec_bit_0_d (s : State) : Result := runTable (bitR 0 .d) s

/-- `BIT 0,E` (R335). -/
def exec_bit_0_e (s : State) : Result := runTable (bitR 0 .e) s

/-- `BIT 0,H` (R335). -/
def exec_bit_0_h (s : State) : Result := runTable (bitR 0 .h) s

/-- `BIT 0,L` (R335). -/
def exec_bit_0_l (s : State) : Result := runTable (bitR 0 .l) s

/-- `BIT 0,(HL)` (R335). -/
def exec_bit_0_mhl (s : State) : Result := runTable (bitM 0) s

/-- `BIT 0,A` (R335). -/
def exec_bit_0_a (s : State) : Result := runTable (bitR 0 .a) s

/-- `BIT 1,B` (R335). -/
def exec_bit_1_b (s : State) : Result := runTable (bitR 1 .b) s

/-- `BIT 1,C` (R335). -/
def exec_bit_1_c (s : State) : Result := runTable (bitR 1 .c) s

/-- `BIT 1,D` (R335). -/
def exec_bit_1_d (s : State) : Result := runTable (bitR 1 .d) s

/-- `BIT 1,E` (R335). -/
def exec_bit_1_e (s : State) : Result := runTable (bitR 1 .e) s

/-- `BIT 1,H` (R335). -/
def exec_bit_1_h (s : State) : Result := runTable (bitR 1 .h) s

/-- `BIT 1,L` (R335). -/
def exec_bit_1_l (s : State) : Result := runTable (bitR 1 .l) s

/-- `BIT 1,(HL)` (R335). -/
def exec_bit_1_mhl (s : State) : Result := runTable (bitM 1) s

/-- `BIT 1,A` (R335). -/
def exec_bit_1_a (s : State) : Result := runTable (bitR 1 .a) s

/-- `BIT 2,B` (R335). -/
def exec_bit_2_b (s : State) : Result := runTable (bitR 2 .b) s

/-- `BIT 2,C` (R335). -/
def exec_bit_2_c (s : State) : Result := runTable (bitR 2 .c) s

/-- `BIT 2,D` (R335). -/
def exec_bit_2_d (s : State) : Result := runTable (bitR 2 .d) s

/-- `BIT 2,E` (R335). -/
def exec_bit_2_e (s : State) : Result := runTable (bitR 2 .e) s

/-- `BIT 2,H` (R335). -/
def exec_bit_2_h (s : State) : Result := runTable (bitR 2 .h) s

/-- `BIT 2,L` (R335). -/
def exec_bit_2_l (s : State) : Result := runTable (bitR 2 .l) s

/-- `BIT 2,(HL)` (R335). -/
def exec_bit_2_mhl (s : State) : Result := runTable (bitM 2) s

/-- `BIT 2,A` (R335). -/
def exec_bit_2_a (s : State) : Result := runTable (bitR 2 .a) s

/-- `BIT 3,B` (R335). -/
def exec_bit_3_b (s : State) : Result := runTable (bitR 3 .b) s

/-- `BIT 3,C` (R335). -/
def exec_bit_3_c (s : State) : Result := runTable (bitR 3 .c) s

/-- `BIT 3,D` (R335). -/
def exec_bit_3_d (s : State) : Result := runTable (bitR 3 .d) s

/-- `BIT 3,E` (R335). -/
def exec_bit_3_e (s : State) : Result := runTable (bitR 3 .e) s

/-- `BIT 3,H` (R335). -/
def exec_bit_3_h (s : State) : Result := runTable (bitR 3 .h) s

/-- `BIT 3,L` (R335). -/
def exec_bit_3_l (s : State) : Result := runTable (bitR 3 .l) s

/-- `BIT 3,(HL)` (R335). -/
def exec_bit_3_mhl (s : State) : Result := runTable (bitM 3) s

/-- `BIT 3,A` (R335). -/
def exec_bit_3_a (s : State) : Result := runTable (bitR 3 .a) s

/-- `BIT 4,B` (R335). -/
def exec_bit_4_b (s : State) : Result := runTable (bitR 4 .b) s

/-- `BIT 4,C` (R335). -/
def exec_bit_4_c (s : State) : Result := runTable (bitR 4 .c) s

/-- `BIT 4,D` (R335). -/
def exec_bit_4_d (s : State) : Result := runTable (bitR 4 .d) s

/-- `BIT 4,E` (R335). -/
def exec_bit_4_e (s : State) : Result := runTable (bitR 4 .e) s

/-- `BIT 4,H` (R335). -/
def exec_bit_4_h (s : State) : Result := runTable (bitR 4 .h) s

/-- `BIT 4,L` (R335). -/
def exec_bit_4_l (s : State) : Result := runTable (bitR 4 .l) s

/-- `BIT 4,(HL)` (R335). -/
def exec_bit_4_mhl (s : State) : Result := runTable (bitM 4) s

/-- `BIT 4,A` (R335). -/
def exec_bit_4_a (s : State) : Result := runTable (bitR 4 .a) s

/-- `BIT 5,B` (R335). -/
def exec_bit_5_b (s : State) : Result := runTable (bitR 5 .b) s

/-- `BIT 5,C` (R335). -/
def exec_bit_5_c (s : State) : Result := runTable (bitR 5 .c) s

/-- `BIT 5,D` (R335). -/
def exec_bit_5_d (s : State) : Result := runTable (bitR 5 .d) s

/-- `BIT 5,E` (R335). -/
def exec_bit_5_e (s : State) : Result := runTable (bitR 5 .e) s

/-- `BIT 5,H` (R335). -/
def exec_bit_5_h (s : State) : Result := runTable (bitR 5 .h) s

/-- `BIT 5,L` (R335). -/
def exec_bit_5_l (s : State) : Result := runTable (bitR 5 .l) s

/-- `BIT 5,(HL)` (R335). -/
def exec_bit_5_mhl (s : State) : Result := runTable (bitM 5) s

/-- `BIT 5,A` (R335). -/
def exec_bit_5_a (s : State) : Result := runTable (bitR 5 .a) s

/-- `BIT 6,B` (R335). -/
def exec_bit_6_b (s : State) : Result := runTable (bitR 6 .b) s

/-- `BIT 6,C` (R335). -/
def exec_bit_6_c (s : State) : Result := runTable (bitR 6 .c) s

/-- `BIT 6,D` (R335). -/
def exec_bit_6_d (s : State) : Result := runTable (bitR 6 .d) s

/-- `BIT 6,E` (R335). -/
def exec_bit_6_e (s : State) : Result := runTable (bitR 6 .e) s

/-- `BIT 6,H` (R335). -/
def exec_bit_6_h (s : State) : Result := runTable (bitR 6 .h) s

/-- `BIT 6,L` (R335). -/
def exec_bit_6_l (s : State) : Result := runTable (bitR 6 .l) s

/-- `BIT 6,(HL)` (R335). -/
def exec_bit_6_mhl (s : State) : Result := runTable (bitM 6) s

/-- `BIT 6,A` (R335). -/
def exec_bit_6_a (s : State) : Result := runTable (bitR 6 .a) s

/-- `BIT 7,B` (R335). -/
def exec_bit_7_b (s : State) : Result := runTable (bitR 7 .b) s

/-- `BIT 7,C` (R335). -/
def exec_bit_7_c (s : State) : Result := runTable (bitR 7 .c) s

/-- `BIT 7,D` (R335). -/
def exec_bit_7_d (s : State) : Result := runTable (bitR 7 .d) s

/-- `BIT 7,E` (R335). -/
def exec_bit_7_e (s : State) : Result := runTable (bitR 7 .e) s

/-- `BIT 7,H` (R335). -/
def exec_bit_7_h (s : State) : Result := runTable (bitR 7 .h) s

/-- `BIT 7,L` (R335). -/
def exec_bit_7_l (s : State) : Result := runTable (bitR 7 .l) s

/-- `BIT 7,(HL)` (R335). -/
def exec_bit_7_mhl (s : State) : Result := runTable (bitM 7) s

/-- `BIT 7,A` (R335). -/
def exec_bit_7_a (s : State) : Result := runTable (bitR 7 .a) s

/-- `RES 0,B` (R336). -/
def exec_res_0_b (s : State) : Result := runTable (modBitR .b (resBit 0)) s

/-- `RES 0,C` (R336). -/
def exec_res_0_c (s : State) : Result := runTable (modBitR .c (resBit 0)) s

/-- `RES 0,D` (R336). -/
def exec_res_0_d (s : State) : Result := runTable (modBitR .d (resBit 0)) s

/-- `RES 0,E` (R336). -/
def exec_res_0_e (s : State) : Result := runTable (modBitR .e (resBit 0)) s

/-- `RES 0,H` (R336). -/
def exec_res_0_h (s : State) : Result := runTable (modBitR .h (resBit 0)) s

/-- `RES 0,L` (R336). -/
def exec_res_0_l (s : State) : Result := runTable (modBitR .l (resBit 0)) s

/-- `RES 0,(HL)` (R336). -/
def exec_res_0_mhl (s : State) : Result := runTable (modBitM (resBit 0)) s

/-- `RES 0,A` (R336). -/
def exec_res_0_a (s : State) : Result := runTable (modBitR .a (resBit 0)) s

/-- `RES 1,B` (R336). -/
def exec_res_1_b (s : State) : Result := runTable (modBitR .b (resBit 1)) s

/-- `RES 1,C` (R336). -/
def exec_res_1_c (s : State) : Result := runTable (modBitR .c (resBit 1)) s

/-- `RES 1,D` (R336). -/
def exec_res_1_d (s : State) : Result := runTable (modBitR .d (resBit 1)) s

/-- `RES 1,E` (R336). -/
def exec_res_1_e (s : State) : Result := runTable (modBitR .e (resBit 1)) s

/-- `RES 1,H` (R336). -/
def exec_res_1_h (s : State) : Result := runTable (modBitR .h (resBit 1)) s

/-- `RES 1,L` (R336). -/
def exec_res_1_l (s : State) : Result := runTable (modBitR .l (resBit 1)) s

/-- `RES 1,(HL)` (R336). -/
def exec_res_1_mhl (s : State) : Result := runTable (modBitM (resBit 1)) s

/-- `RES 1,A` (R336). -/
def exec_res_1_a (s : State) : Result := runTable (modBitR .a (resBit 1)) s

/-- `RES 2,B` (R336). -/
def exec_res_2_b (s : State) : Result := runTable (modBitR .b (resBit 2)) s

/-- `RES 2,C` (R336). -/
def exec_res_2_c (s : State) : Result := runTable (modBitR .c (resBit 2)) s

/-- `RES 2,D` (R336). -/
def exec_res_2_d (s : State) : Result := runTable (modBitR .d (resBit 2)) s

/-- `RES 2,E` (R336). -/
def exec_res_2_e (s : State) : Result := runTable (modBitR .e (resBit 2)) s

/-- `RES 2,H` (R336). -/
def exec_res_2_h (s : State) : Result := runTable (modBitR .h (resBit 2)) s

/-- `RES 2,L` (R336). -/
def exec_res_2_l (s : State) : Result := runTable (modBitR .l (resBit 2)) s

/-- `RES 2,(HL)` (R336). -/
def exec_res_2_mhl (s : State) : Result := runTable (modBitM (resBit 2)) s

/-- `RES 2,A` (R336). -/
def exec_res_2_a (s : State) : Result := runTable (modBitR .a (resBit 2)) s

/-- `RES 3,B` (R336). -/
def exec_res_3_b (s : State) : Result := runTable (modBitR .b (resBit 3)) s

/-- `RES 3,C` (R336). -/
def exec_res_3_c (s : State) : Result := runTable (modBitR .c (resBit 3)) s

/-- `RES 3,D` (R336). -/
def exec_res_3_d (s : State) : Result := runTable (modBitR .d (resBit 3)) s

/-- `RES 3,E` (R336). -/
def exec_res_3_e (s : State) : Result := runTable (modBitR .e (resBit 3)) s

/-- `RES 3,H` (R336). -/
def exec_res_3_h (s : State) : Result := runTable (modBitR .h (resBit 3)) s

/-- `RES 3,L` (R336). -/
def exec_res_3_l (s : State) : Result := runTable (modBitR .l (resBit 3)) s

/-- `RES 3,(HL)` (R336). -/
def exec_res_3_mhl (s : State) : Result := runTable (modBitM (resBit 3)) s

/-- `RES 3,A` (R336). -/
def exec_res_3_a (s : State) : Result := runTable (modBitR .a (resBit 3)) s

/-- `RES 4,B` (R336). -/
def exec_res_4_b (s : State) : Result := runTable (modBitR .b (resBit 4)) s

/-- `RES 4,C` (R336). -/
def exec_res_4_c (s : State) : Result := runTable (modBitR .c (resBit 4)) s

/-- `RES 4,D` (R336). -/
def exec_res_4_d (s : State) : Result := runTable (modBitR .d (resBit 4)) s

/-- `RES 4,E` (R336). -/
def exec_res_4_e (s : State) : Result := runTable (modBitR .e (resBit 4)) s

/-- `RES 4,H` (R336). -/
def exec_res_4_h (s : State) : Result := runTable (modBitR .h (resBit 4)) s

/-- `RES 4,L` (R336). -/
def exec_res_4_l (s : State) : Result := runTable (modBitR .l (resBit 4)) s

/-- `RES 4,(HL)` (R336). -/
def exec_res_4_mhl (s : State) : Result := runTable (modBitM (resBit 4)) s

/-- `RES 4,A` (R336). -/
def exec_res_4_a (s : State) : Result := runTable (modBitR .a (resBit 4)) s

/-- `RES 5,B` (R336). -/
def exec_res_5_b (s : State) : Result := runTable (modBitR .b (resBit 5)) s

/-- `RES 5,C` (R336). -/
def exec_res_5_c (s : State) : Result := runTable (modBitR .c (resBit 5)) s

/-- `RES 5,D` (R336). -/
def exec_res_5_d (s : State) : Result := runTable (modBitR .d (resBit 5)) s

/-- `RES 5,E` (R336). -/
def exec_res_5_e (s : State) : Result := runTable (modBitR .e (resBit 5)) s

/-- `RES 5,H` (R336). -/
def exec_res_5_h (s : State) : Result := runTable (modBitR .h (resBit 5)) s

/-- `RES 5,L` (R336). -/
def exec_res_5_l (s : State) : Result := runTable (modBitR .l (resBit 5)) s

/-- `RES 5,(HL)` (R336). -/
def exec_res_5_mhl (s : State) : Result := runTable (modBitM (resBit 5)) s

/-- `RES 5,A` (R336). -/
def exec_res_5_a (s : State) : Result := runTable (modBitR .a (resBit 5)) s

/-- `RES 6,B` (R336). -/
def exec_res_6_b (s : State) : Result := runTable (modBitR .b (resBit 6)) s

/-- `RES 6,C` (R336). -/
def exec_res_6_c (s : State) : Result := runTable (modBitR .c (resBit 6)) s

/-- `RES 6,D` (R336). -/
def exec_res_6_d (s : State) : Result := runTable (modBitR .d (resBit 6)) s

/-- `RES 6,E` (R336). -/
def exec_res_6_e (s : State) : Result := runTable (modBitR .e (resBit 6)) s

/-- `RES 6,H` (R336). -/
def exec_res_6_h (s : State) : Result := runTable (modBitR .h (resBit 6)) s

/-- `RES 6,L` (R336). -/
def exec_res_6_l (s : State) : Result := runTable (modBitR .l (resBit 6)) s

/-- `RES 6,(HL)` (R336). -/
def exec_res_6_mhl (s : State) : Result := runTable (modBitM (resBit 6)) s

/-- `RES 6,A` (R336). -/
def exec_res_6_a (s : State) : Result := runTable (modBitR .a (resBit 6)) s

/-- `RES 7,B` (R336). -/
def exec_res_7_b (s : State) : Result := runTable (modBitR .b (resBit 7)) s

/-- `RES 7,C` (R336). -/
def exec_res_7_c (s : State) : Result := runTable (modBitR .c (resBit 7)) s

/-- `RES 7,D` (R336). -/
def exec_res_7_d (s : State) : Result := runTable (modBitR .d (resBit 7)) s

/-- `RES 7,E` (R336). -/
def exec_res_7_e (s : State) : Result := runTable (modBitR .e (resBit 7)) s

/-- `RES 7,H` (R336). -/
def exec_res_7_h (s : State) : Result := runTable (modBitR .h (resBit 7)) s

/-- `RES 7,L` (R336). -/
def exec_res_7_l (s : State) : Result := runTable (modBitR .l (resBit 7)) s

/-- `RES 7,(HL)` (R336). -/
def exec_res_7_mhl (s : State) : Result := runTable (modBitM (resBit 7)) s

/-- `RES 7,A` (R336). -/
def exec_res_7_a (s : State) : Result := runTable (modBitR .a (resBit 7)) s

/-- `SET 0,B` (R337). -/
def exec_set_0_b (s : State) : Result := runTable (modBitR .b (setBit 0)) s

/-- `SET 0,C` (R337). -/
def exec_set_0_c (s : State) : Result := runTable (modBitR .c (setBit 0)) s

/-- `SET 0,D` (R337). -/
def exec_set_0_d (s : State) : Result := runTable (modBitR .d (setBit 0)) s

/-- `SET 0,E` (R337). -/
def exec_set_0_e (s : State) : Result := runTable (modBitR .e (setBit 0)) s

/-- `SET 0,H` (R337). -/
def exec_set_0_h (s : State) : Result := runTable (modBitR .h (setBit 0)) s

/-- `SET 0,L` (R337). -/
def exec_set_0_l (s : State) : Result := runTable (modBitR .l (setBit 0)) s

/-- `SET 0,(HL)` (R337). -/
def exec_set_0_mhl (s : State) : Result := runTable (modBitM (setBit 0)) s

/-- `SET 0,A` (R337). -/
def exec_set_0_a (s : State) : Result := runTable (modBitR .a (setBit 0)) s

/-- `SET 1,B` (R337). -/
def exec_set_1_b (s : State) : Result := runTable (modBitR .b (setBit 1)) s

/-- `SET 1,C` (R337). -/
def exec_set_1_c (s : State) : Result := runTable (modBitR .c (setBit 1)) s

/-- `SET 1,D` (R337). -/
def exec_set_1_d (s : State) : Result := runTable (modBitR .d (setBit 1)) s

/-- `SET 1,E` (R337). -/
def exec_set_1_e (s : State) : Result := runTable (modBitR .e (setBit 1)) s

/-- `SET 1,H` (R337). -/
def exec_set_1_h (s : State) : Result := runTable (modBitR .h (setBit 1)) s

/-- `SET 1,L` (R337). -/
def exec_set_1_l (s : State) : Result := runTable (modBitR .l (setBit 1)) s

/-- `SET 1,(HL)` (R337). -/
def exec_set_1_mhl (s : State) : Result := runTable (modBitM (setBit 1)) s

/-- `SET 1,A` (R337). -/
def exec_set_1_a (s : State) : Result := runTable (modBitR .a (setBit 1)) s

/-- `SET 2,B` (R337). -/
def exec_set_2_b (s : State) : Result := runTable (modBitR .b (setBit 2)) s

/-- `SET 2,C` (R337). -/
def exec_set_2_c (s : State) : Result := runTable (modBitR .c (setBit 2)) s

/-- `SET 2,D` (R337). -/
def exec_set_2_d (s : State) : Result := runTable (modBitR .d (setBit 2)) s

/-- `SET 2,E` (R337). -/
def exec_set_2_e (s : State) : Result := runTable (modBitR .e (setBit 2)) s

/-- `SET 2,H` (R337). -/
def exec_set_2_h (s : State) : Result := runTable (modBitR .h (setBit 2)) s

/-- `SET 2,L` (R337). -/
def exec_set_2_l (s : State) : Result := runTable (modBitR .l (setBit 2)) s

/-- `SET 2,(HL)` (R337). -/
def exec_set_2_mhl (s : State) : Result := runTable (modBitM (setBit 2)) s

/-- `SET 2,A` (R337). -/
def exec_set_2_a (s : State) : Result := runTable (modBitR .a (setBit 2)) s

/-- `SET 3,B` (R337). -/
def exec_set_3_b (s : State) : Result := runTable (modBitR .b (setBit 3)) s

/-- `SET 3,C` (R337). -/
def exec_set_3_c (s : State) : Result := runTable (modBitR .c (setBit 3)) s

/-- `SET 3,D` (R337). -/
def exec_set_3_d (s : State) : Result := runTable (modBitR .d (setBit 3)) s

/-- `SET 3,E` (R337). -/
def exec_set_3_e (s : State) : Result := runTable (modBitR .e (setBit 3)) s

/-- `SET 3,H` (R337). -/
def exec_set_3_h (s : State) : Result := runTable (modBitR .h (setBit 3)) s

/-- `SET 3,L` (R337). -/
def exec_set_3_l (s : State) : Result := runTable (modBitR .l (setBit 3)) s

/-- `SET 3,(HL)` (R337). -/
def exec_set_3_mhl (s : State) : Result := runTable (modBitM (setBit 3)) s

/-- `SET 3,A` (R337). -/
def exec_set_3_a (s : State) : Result := runTable (modBitR .a (setBit 3)) s

/-- `SET 4,B` (R337). -/
def exec_set_4_b (s : State) : Result := runTable (modBitR .b (setBit 4)) s

/-- `SET 4,C` (R337). -/
def exec_set_4_c (s : State) : Result := runTable (modBitR .c (setBit 4)) s

/-- `SET 4,D` (R337). -/
def exec_set_4_d (s : State) : Result := runTable (modBitR .d (setBit 4)) s

/-- `SET 4,E` (R337). -/
def exec_set_4_e (s : State) : Result := runTable (modBitR .e (setBit 4)) s

/-- `SET 4,H` (R337). -/
def exec_set_4_h (s : State) : Result := runTable (modBitR .h (setBit 4)) s

/-- `SET 4,L` (R337). -/
def exec_set_4_l (s : State) : Result := runTable (modBitR .l (setBit 4)) s

/-- `SET 4,(HL)` (R337). -/
def exec_set_4_mhl (s : State) : Result := runTable (modBitM (setBit 4)) s

/-- `SET 4,A` (R337). -/
def exec_set_4_a (s : State) : Result := runTable (modBitR .a (setBit 4)) s

/-- `SET 5,B` (R337). -/
def exec_set_5_b (s : State) : Result := runTable (modBitR .b (setBit 5)) s

/-- `SET 5,C` (R337). -/
def exec_set_5_c (s : State) : Result := runTable (modBitR .c (setBit 5)) s

/-- `SET 5,D` (R337). -/
def exec_set_5_d (s : State) : Result := runTable (modBitR .d (setBit 5)) s

/-- `SET 5,E` (R337). -/
def exec_set_5_e (s : State) : Result := runTable (modBitR .e (setBit 5)) s

/-- `SET 5,H` (R337). -/
def exec_set_5_h (s : State) : Result := runTable (modBitR .h (setBit 5)) s

/-- `SET 5,L` (R337). -/
def exec_set_5_l (s : State) : Result := runTable (modBitR .l (setBit 5)) s

/-- `SET 5,(HL)` (R337). -/
def exec_set_5_mhl (s : State) : Result := runTable (modBitM (setBit 5)) s

/-- `SET 5,A` (R337). -/
def exec_set_5_a (s : State) : Result := runTable (modBitR .a (setBit 5)) s

/-- `SET 6,B` (R337). -/
def exec_set_6_b (s : State) : Result := runTable (modBitR .b (setBit 6)) s

/-- `SET 6,C` (R337). -/
def exec_set_6_c (s : State) : Result := runTable (modBitR .c (setBit 6)) s

/-- `SET 6,D` (R337). -/
def exec_set_6_d (s : State) : Result := runTable (modBitR .d (setBit 6)) s

/-- `SET 6,E` (R337). -/
def exec_set_6_e (s : State) : Result := runTable (modBitR .e (setBit 6)) s

/-- `SET 6,H` (R337). -/
def exec_set_6_h (s : State) : Result := runTable (modBitR .h (setBit 6)) s

/-- `SET 6,L` (R337). -/
def exec_set_6_l (s : State) : Result := runTable (modBitR .l (setBit 6)) s

/-- `SET 6,(HL)` (R337). -/
def exec_set_6_mhl (s : State) : Result := runTable (modBitM (setBit 6)) s

/-- `SET 6,A` (R337). -/
def exec_set_6_a (s : State) : Result := runTable (modBitR .a (setBit 6)) s

/-- `SET 7,B` (R337). -/
def exec_set_7_b (s : State) : Result := runTable (modBitR .b (setBit 7)) s

/-- `SET 7,C` (R337). -/
def exec_set_7_c (s : State) : Result := runTable (modBitR .c (setBit 7)) s

/-- `SET 7,D` (R337). -/
def exec_set_7_d (s : State) : Result := runTable (modBitR .d (setBit 7)) s

/-- `SET 7,E` (R337). -/
def exec_set_7_e (s : State) : Result := runTable (modBitR .e (setBit 7)) s

/-- `SET 7,H` (R337). -/
def exec_set_7_h (s : State) : Result := runTable (modBitR .h (setBit 7)) s

/-- `SET 7,L` (R337). -/
def exec_set_7_l (s : State) : Result := runTable (modBitR .l (setBit 7)) s

/-- `SET 7,(HL)` (R337). -/
def exec_set_7_mhl (s : State) : Result := runTable (modBitM (setBit 7)) s

/-- `SET 7,A` (R337). -/
def exec_set_7_a (s : State) : Result := runTable (modBitR .a (setBit 7)) s

end Sys2Proof.Machine
end

