-- ==== Sys2Proof/Machine/System.lean ====
section
/-! DEFINITION. System instructions and the illegal bytes (47_system.md R390 to R397). -/

namespace Sys2Proof.Machine

/-- `NOP` (R390). -/
def nopTable : List Action := [idle]

/-- Whether HALT meets the halt-bug condition (R393). -/
def State.haltBug (s : State) : Bool := s.ime != .enabled && s.pend != 0

/-- `HALT` (R392): the halt bug is fatal (R393). -/
def haltInstrTable : List Action :=
  [fun s => if s.haltBug then .fatal .haltBugNotModelled s else .go { s with halted := true }]

/-- `STOP` (R394): fatal at M1. -/
def stopTable : List Action := [fun s => .fatal .stopNotModelled s]

/-- `DI` (R395). -/
def diTable : List Action := [act fun s => s.setIme .disabled]

/-- `EI` (R396): only a Disabled IME changes. -/
def eiTable : List Action := [act fun s => if s.ime = .disabled then s.setIme .scheduledInitial else s]

/-- An illegal byte (R391): fatal at M1. -/
def illegalTable (op : Byte) : List Action := [fun s => .fatal (.illegalOpcode op) s]

/-! ### The instructions -/

/-- `NOP` (R390). -/
def exec_nop (s : State) : Result := runTable nopTable s

/-- `STOP` (R394). -/
def exec_stop (s : State) : Result := runTable stopTable s

/-- `HALT` (R392). -/
def exec_halt (s : State) : Result := runTable haltInstrTable s

/-- The illegal byte 0xD3 (R391). -/
def exec_illegal_d3 (s : State) : Result := runTable (illegalTable 0xD3) s

/-- The illegal byte 0xDB (R391). -/
def exec_illegal_db (s : State) : Result := runTable (illegalTable 0xDB) s

/-- The illegal byte 0xDD (R391). -/
def exec_illegal_dd (s : State) : Result := runTable (illegalTable 0xDD) s

/-- The illegal byte 0xE3 (R391). -/
def exec_illegal_e3 (s : State) : Result := runTable (illegalTable 0xE3) s

/-- The illegal byte 0xE4 (R391). -/
def exec_illegal_e4 (s : State) : Result := runTable (illegalTable 0xE4) s

/-- The illegal byte 0xEB (R391). -/
def exec_illegal_eb (s : State) : Result := runTable (illegalTable 0xEB) s

/-- The illegal byte 0xEC (R391). -/
def exec_illegal_ec (s : State) : Result := runTable (illegalTable 0xEC) s

/-- The illegal byte 0xED (R391). -/
def exec_illegal_ed (s : State) : Result := runTable (illegalTable 0xED) s

/-- `DI` (R395). -/
def exec_di (s : State) : Result := runTable diTable s

/-- The illegal byte 0xF4 (R391). -/
def exec_illegal_f4 (s : State) : Result := runTable (illegalTable 0xF4) s

/-- `EI` (R396). -/
def exec_ei (s : State) : Result := runTable eiTable s

/-- The illegal byte 0xFC (R391). -/
def exec_illegal_fc (s : State) : Result := runTable (illegalTable 0xFC) s

/-- The illegal byte 0xFD (R391). -/
def exec_illegal_fd (s : State) : Result := runTable (illegalTable 0xFD) s

end Sys2Proof.Machine
end

