-- ==== Sys2Proof/Machine/Engine.lean ====
section
/-! DEFINITION. The engine: the fetch steps, the step of the sequence in flight, and the M-cycle
(40_engine_sequencer.md R160 to R177); and putting an instruction where the next fetch reads it. -/

namespace Sys2Proof.Machine

/-- The state after the fetch of the opcode in M1: `op <- MemRead(PC, 1); PC <- PC + 1` (R165). -/
def State.fetched (s : State) : State := s.incPc.mapScratch fun x => { x with op := s.read s.cpu.pc }

/-- The state after the fetch of the second byte in M2 of a CB instruction: `op2 <- MemRead(PC, 1); PC <- PC + 1`
(R166). -/
def State.fetchedCb (s : State) : State := s.incPc.mapScratch fun x => { x with op2 := s.read s.cpu.pc }

/-- M1 of every instruction (R165): the fetch, and in the same step the first step of the decoded instruction. A prefix
ends the step; M2 is then the CB step (R135). -/
def fetchStep (s : State) : Result :=
  match decodePrimary (s.read s.cpu.pc) with
  | .instr i => exec i s.fetched
  | .cbPrefix => .next (s.fetched.mapScratch fun x => { x with cb := true }).advance

/-- M2 of every CB instruction (R166). -/
def cbStep (s : State) : Result := exec (decodeCb (s.read s.cpu.pc)) s.fetchedCb

/-- The instruction whose opcode bytes the scratch holds (R51). -/
def Scratch.instr (x : Scratch) : Decoded := if x.cb then .instr (decodeCb x.op2) else decodePrimary x.op

/-- The later steps of an instruction: those of its own table. -/
def laterStep (x : Scratch) (s : State) : Result :=
  match x.instr with
  | .instr i => exec i s
  | .cbPrefix => .fault .noSuchStep

/-- Performs step `cur.k` of `cur` (R160), without the device ticks. -/
def perform (s : State) : Result :=
  match s.cur with
  | none => .fault .noSuchStep
  | some q =>
    match q.kind with
    | .instr x => if q.k = 1 then fetchStep s else if q.k = 2 ∧ x.cb then cbStep s else laterStep x s
    | .service v => runTable (serviceTable v) s
    | .haltWait => runTable haltTable s
    | .haltResume => runTable haltTable s

/-- The state an M-cycle performs its step in: the host's input taken (R175), and a sequence chosen if none is in
flight (R160, R161). -/
def State.ready (s : State) : State :=
  match s.takeInput.cur with
  | none => s.takeInput.schedule
  | some _ => s.takeInput

/-- What follows the step of an M-cycle: the four ticks, but none in a faulted M-cycle (R160, R174). -/
def State.afterStep (s : State) : State :=
  match s.fault with
  | none => s.tick
  | some _ => s

/-- An M-cycle's answer from its step's answer. -/
def finish : Result → Result
  | .next s => .next s.afterStep
  | .fault r => .fault r
  | .refused r => .refused r

/-- One M-cycle (R160). In the fault state no step exists (R440). -/
def mcycle (s : State) : Result :=
  match s.fault with
  | some kind => .fault (.fatal kind)
  | none => finish (perform s.ready)

/-! ### Placing an instruction for the next fetch -/

/-- Whether a byte can be put at an address for a fetch to read: the ROM images and the flat RAM. -/
def State.placeable (s : State) (a : Word) : Bool :=
  match s.region a with
  | .bootRom | .cartRom | .flatRam => true
  | _ => false

/-- Puts a byte where a read of the address finds it: a launch action, not a bus write (R79). -/
def State.place (s : State) (a : Word) (v : Byte) : State :=
  match s.region a with
  | .bootRom => { s with boot := s.boot.write a.toNat v }
  | .cartRom => { s with rom := s.rom.write a.toNat v }
  | .flatRam => { s with ram := s.ram.write a.toNat v }
  | _ => s

/-- Puts bytes at consecutive addresses. -/
def State.placeBytes (s : State) (a : Word) : List Byte → State
  | [] => s
  | v :: vs => (s.place a v).placeBytes (a + 1) vs

/-- Makes the next M-cycle a fetch: no fault, no sequence in flight, not halted, no dispatch (log 11). -/
def State.aboutToFetch (s : State) : State :=
  let t := { s with fault := none, cur := none, halted := false }
  if t.takeInput.ime = .enabled ∧ t.takeInput.pend ≠ 0 then t.setIme .disabled else t

/-- Where bytes go when PC points at no ROM or flat RAM: the start of the work RAM (log 11). -/
def spareAddress : Word := 0xC000

/-- PC stays where it is if three bytes can be put there, and moves to the work RAM otherwise (log 11). -/
def State.aboutToFetchHere (s : State) : State :=
  if s.placeable s.cpu.pc && s.placeable (s.cpu.pc + 1) && s.placeable (s.cpu.pc + 2) then s else s.setPc spareAddress

/-- Puts an instruction where the next M-cycle fetches. -/
def State.withFetchBytes (s : State) (bs : List Byte) : State :=
  let t := s.aboutToFetch.aboutToFetchHere
  t.placeBytes t.cpu.pc bs

end Sys2Proof.Machine
end

