-- ==== Sys2Proof/Machine/Step.lean ====
section
/-! DEFINITION. The step of the machine: one M-cycle (R8, R160; log 1). -/

namespace Sys2Proof.Machine

/-- One step of the machine is one M-cycle (R8). -/
def step (s : State) : Host.Outcome State Fault Refusal := mcycle s

/-- The state with an instruction, its bits numbered as the opcode table numbers them, where the next step fetches
(log 10, log 11). -/
def State.withFetchWord (s : State) (nbits w : Nat) : State := s.withFetchBytes (tableBytes nbits w)

end Sys2Proof.Machine
end

