-- ==== Sys2Proof/WellFormed.lean ====
section
/-! DEFINITION. Which terms of the syntax stand for something the hardware can hold. -/

namespace Sys2Proof

/-- An instruction in memory has exactly the operand bytes its opcode asks for (R120, R121). -/
def Insn.wellFormed (x : Insn) : Bool := x.operands.length == x.instr.operandBytes

/-- An operation kind is one of the table's: the byte of an illegal opcode is one of the 11 of R134. Every other
operand descriptor is bounded by its type. -/
def Form.wellFormed : Form → Bool
  | .illegal op => illegalBytes.contains op
  | _ => true

end Sys2Proof
end

