-- ==== Sys2Proof/Safety.lean ====
section
/-! DEFINITION. The terms claims are made in: when a run is good, the invariants of the machine, how many M-cycles an
instruction takes (R131, R133), and what one step of an instruction does to the registers, to the sequence in flight and
to memory. -/

namespace Sys2Proof

/-- The M-cycles of the grids of R131 and R133, the untaken count for a conditional instruction. The 11 illegal bytes and
STOP fault at their first M-cycle. -/
def Form.mcycles : Form → Nat
  | .ldRR _ _ => 1
  | .ldRN _ => 2
  | .ldRM _ => 2
  | .ldMR _ => 2
  | .ldMN => 3
  | .ldABc => 2
  | .ldADe => 2
  | .ldBcA => 2
  | .ldDeA => 2
  | .ldANn => 4
  | .ldNnA => 4
  | .ldhAC => 2
  | .ldhCA => 2
  | .ldhAN => 3
  | .ldhNA => 3
  | .ldAHld => 2
  | .ldHldA => 2
  | .ldAHli => 2
  | .ldHliA => 2
  | .ldRpNn _ => 3
  | .ldSpHl => 2
  | .push _ => 4
  | .pop _ => 3
  | .ldHlSpE => 3
  | .ldNnSp => 5
  | .aluR _ _ => 1
  | .aluM _ => 2
  | .aluN _ => 2
  | .incR _ => 1
  | .incM => 3
  | .decR _ => 1
  | .decM => 3
  | .daa => 1
  | .cpl => 1
  | .scf => 1
  | .ccf => 1
  | .incRp _ => 2
  | .decRp _ => 2
  | .addHl _ => 2
  | .addSpE => 4
  | .rlca => 1
  | .rrca => 1
  | .rla => 1
  | .rra => 1
  | .rotR _ _ => 2
  | .rotM _ => 4
  | .bitR _ _ => 2
  | .bitM _ => 3
  | .resR _ _ => 2
  | .resM _ => 4
  | .setR _ _ => 2
  | .setM _ => 4
  | .jpNn => 4
  | .jpCc _ => 3
  | .jpHl => 1
  | .jrE => 3
  | .jrCc _ => 2
  | .callNn => 6
  | .callCc _ => 3
  | .ret => 4
  | .retCc _ => 2
  | .reti => 4
  | .rst _ => 4
  | .nop => 1
  | .halt => 1
  | .stop => 1
  | .di => 1
  | .ei => 1
  | .illegal _ => 1

/-- The condition a conditional instruction decides on (R169). -/
def Form.cond : Form → Option Cond
  | .jpCc cc => some cc
  | .jrCc cc => some cc
  | .callCc cc => some cc
  | .retCc cc => some cc
  | _ => none

/-- The M-cycles of a conditional instruction whose condition holds (R374); of any other instruction, its M-cycles. -/
def Form.mcyclesTaken : Form → Nat
  | .jpCc _ => 4
  | .jrCc _ => 3
  | .callCc _ => 6
  | .retCc _ => 5
  | f => f.mcycles

namespace Machine

/-! ### Good states -/

/-- A good state: no fatal condition was met (R177: a fault is never a good end). -/
def State.Running (s : State) : Prop := s.fault = none

/-- Bits 3:0 of F are 0 (R36). -/
def State.FlagsLow (s : State) : Prop := s.cpu.f &&& 0x0F#8 = 0

/-- A PPU's bytes are a canonical array over the address space. -/
def Ppu.Canonical (p : Ppu) : Prop := p.bytes.wf 65536 = true

/-- Every array is in its canonical form, within the size R50 gives it; so are the bytes of a PPU the host will put in. -/
def State.Canonical (s : State) : Prop :=
  s.ram.wf 65536 = true ∧ s.rom.wf 32768 = true ∧ s.boot.wf 256 = true ∧ s.ppu.Canonical ∧
    ∀ x ∈ s.inputs, ∀ p, x.ppu = some p → p.Canonical

/-- The timer between two M-cycles: the latches agree (R436), and TIMA is 0 in the reload window (R44). -/
def State.TimerOk (s : State) : Prop :=
  s.timer.reloadDue = s.timer.reloadPending ∧ (s.timer.reloadPending = true → s.timer.tima = 0)

/-- The DMA between two M-cycles: the source is a page's first byte (R442), the progress is at most 160, below 160 while
bytes remain to copy and 0 before the first (R443). -/
def State.DmaOk (s : State) : Prop :=
  lo s.dma.src = 0 ∧ s.dma.progress.toNat ≤ 160 ∧
    (s.dma.status = .inProgress → s.dma.progress.toNat < 160) ∧
    (s.dma.status = .scheduledInitial ∨ s.dma.status = .scheduledNext → s.dma.progress = 0)

/-- An instruction in flight between two M-cycles is past its fetch and not past its last step. -/
def Scratch.StepOk (x : Scratch) (k : Nat) : Prop :=
  (x.cb = true ∧ k = 2) ∨
  (x.cb = true ∧ 3 ≤ k ∧ k ≤ (decodeCb x.op2).form.mcycles) ∨
  (x.cb = false ∧ ∃ i, decodePrimary x.op = .instr i ∧ 2 ≤ k ∧ k ≤ i.form.mcyclesTaken)

/-- A sequence in flight between two M-cycles has a next step (R51). A halted sequence has one step, so it is never in
flight there. -/
def Seq.Ok (q : Seq) : Prop :=
  match q.kind with
  | .instr x => x.StepOk q.k
  | .service v => (∃ i, v = vector i) ∧ 2 ≤ q.k ∧ q.k ≤ 5
  | .haltWait => False
  | .haltResume => False

/-- In a running state the sequence in flight, if any, has a next step. -/
def State.SeqOk (s : State) : Prop := s.fault = none → ∀ q, s.cur = some q → q.Ok

/-! ### What a step does to the registers -/

/-- The four flags have these values and the low nibble of F is 0 (R35). -/
def FlagsAre (p : Cpu) (z n h c : Bool) : Prop :=
  p.f[7] = z ∧ p.f[6] = n ∧ p.f[5] = h ∧ p.f[4] = c ∧ p.f &&& 0x0F#8 = 0

/-- One 8-bit register gets a value; every other register, F, SP and PC stay. -/
def SetsR8 (p q : Cpu) (r : R8) (v : Byte) : Prop :=
  q.r8 r = v ∧ (∀ r', r' ≠ r → q.r8 r' = p.r8 r') ∧ q.f = p.f ∧ q.sp = p.sp ∧ q.pc = p.pc

/-- One of BC, DE, HL, SP gets a value; the other three, A, F and PC stay. -/
def SetsRp (p q : Cpu) (d : Rp) (v : Word) : Prop :=
  q.rp d = v ∧ (∀ d', d' ≠ d → q.rp d' = p.rp d') ∧ q.a = p.a ∧ q.f = p.f ∧ q.pc = p.pc

/-- One of BC, DE, HL, AF gets a value; the other three, SP and PC stay. -/
def SetsRp2 (p q : Cpu) (d : Rp2) (v : Word) : Prop :=
  q.rp2 d = v ∧ (∀ d', d' ≠ d → q.rp2 d' = p.rp2 d') ∧ q.sp = p.sp ∧ q.pc = p.pc

/-- Only A and F may differ. -/
def OnlyAF (p q : Cpu) : Prop := q = { p with a := q.a, f := q.f }

/-- Only F may differ. -/
def OnlyF (p q : Cpu) : Prop := q = { p with f := q.f }

/-! ### What a step does to the rest of the state -/

/-- Nothing but the registers and the sequence in flight may differ, and every address reads as before. -/
def NoStore (s t : State) : Prop :=
  t = { s with cpu := t.cpu, cur := t.cur } ∧ ∀ b, t.read b = s.read b

/-- Whether an address belongs to the PPU (R72). -/
def State.ppuOwns (s : State) (a : Word) : Bool :=
  match s.region a with
  | .ppuRegister | .vram | .oam => true
  | _ => false

/-- Whether a byte written at an address is kept there: flat RAM, and the windows of the default PPU (R77, R450). -/
def State.keeps (s : State) (a : Word) : Bool :=
  match s.region a with
  | .flatRam => true
  | .ppuRegister | .vram | .oam => s.ppu.model == .null
  | _ => false

/-- Whether a byte written at an address is dropped: the ROM images (R74, R75). -/
def State.drops (s : State) (a : Word) : Bool :=
  match s.region a with
  | .cartRom | .bootRom => true
  | _ => false

/-- The addresses other than `a` that a write to `a` may change as well (R83): TIMA by a write to DIV or TAC, the
overlaid ROM bytes by the unmapping, and an external PPU's addresses by a write to any of them. -/
def State.MayAlsoChange (s : State) (a b : Word) : Prop :=
  ((a = 0xFF04 ∨ a = 0xFF07) ∧ b = 0xFF05) ∨
  (a = 0xFF50 ∧ b.toNat ≤ 0xFF) ∨
  (s.ppu.model = .external ∧ s.ppuOwns a = true ∧ s.ppuOwns b = true)

/-- The byte `v` is stored at `a` through the bus: everything but the registers and the sequence in flight is as the bus
write leaves it; every address the write does not concern reads as before; the byte is there where the address keeps
bytes, and the old one where it drops them. -/
structure Stores (s t : State) (a : Word) (v : Byte) : Prop where
  rest : t = { s.write a v with cpu := t.cpu, cur := t.cur }
  frame : ∀ b, b ≠ a → ¬ s.MayAlsoChange a b → t.read b = s.read b
  kept : s.Canonical → s.keeps a = true → t.read a = v
  dropped : s.drops a = true → t.read a = s.read a

/-! ### What one step of an instruction does -/

/-- In every state whose instruction in flight is at step `k`, whatever its scratch `x`, performing that step of `i`
answers a next state, and `R` relates the two. The fetch of the opcode (R165, R166) is done before: PC is past it. -/
def StepDoes (i : Instr) (k : Nat) (R : State → Scratch → State → Prop) : Prop :=
  ∀ s x, s.cur = some ⟨.instr x, k⟩ → ∃ t, exec i s = .next t ∧ R s x t

/-- Step `k` changes nothing but the number of the next step (R17). -/
def Idles (i : Instr) (k : Nat) : Prop :=
  StepDoes i k fun s x t => t = { s with cur := some ⟨.instr x, k + 1⟩ }

/-- Step `k` reads the byte at PC into `lo` (R123). -/
def FetchesLo (i : Instr) (k : Nat) : Prop :=
  StepDoes i k fun s x t =>
    t = { s with
          cpu := { s.cpu with pc := s.cpu.pc + 1 }
          cur := some ⟨.instr { x with lo := s.read s.cpu.pc }, k + 1⟩ }

/-- Step `k` reads the byte at PC into `hi` (R123). -/
def FetchesHi (i : Instr) (k : Nat) : Prop :=
  StepDoes i k fun s x t =>
    t = { s with
          cpu := { s.cpu with pc := s.cpu.pc + 1 }
          cur := some ⟨.instr { x with hi := s.read s.cpu.pc }, k + 1⟩ }

/-- Step `k` reads the byte at PC into `tmp` (R123). -/
def FetchesTmp (i : Instr) (k : Nat) : Prop :=
  StepDoes i k fun s x t =>
    t = { s with
          cpu := { s.cpu with pc := s.cpu.pc + 1 }
          cur := some ⟨.instr { x with tmp := s.read s.cpu.pc }, k + 1⟩ }

/-- Step `k` reads the byte at HL into `tmp`. -/
def LoadsTmp (i : Instr) (k : Nat) : Prop :=
  StepDoes i k fun s x t => t = { s with cur := some ⟨.instr { x with tmp := s.read s.cpu.hl }, k + 1⟩ }

/-- Step `k` is Qa of R234: `lo` gets the byte at SP, and SP moves up. -/
def PopsLo (i : Instr) (k : Nat) : Prop :=
  StepDoes i k fun s x t =>
    t = { s with
          cpu := { s.cpu with sp := s.cpu.sp + 1 }
          cur := some ⟨.instr { x with lo := s.read s.cpu.sp }, k + 1⟩ }

/-- Step `k` is Qb of R234: `hi` gets the byte at SP, and SP moves up. -/
def PopsHi (i : Instr) (k : Nat) : Prop :=
  StepDoes i k fun s x t =>
    t = { s with
          cpu := { s.cpu with sp := s.cpu.sp + 1 }
          cur := some ⟨.instr { x with hi := s.read s.cpu.sp }, k + 1⟩ }

/-- Step `k` is Pa of R234: SP moves down. -/
def PushesDown (i : Instr) (k : Nat) : Prop :=
  StepDoes i k fun s x t =>
    t = { s with cpu := { s.cpu with sp := s.cpu.sp - 1 }, cur := some ⟨.instr x, k + 1⟩ }

/-- Step `k` is Pb of R234: the high byte of `v` is stored at SP, and SP moves down. -/
def PushesHi (i : Instr) (k : Nat) (v : State → Word) : Prop :=
  StepDoes i k fun s x t =>
    Stores s t s.cpu.sp (hi (v s)) ∧ t.cpu = { s.cpu with sp := s.cpu.sp - 1 } ∧ t.cur = some ⟨.instr x, k + 1⟩

/-- Step `k` is a conditional instruction's decision at the read of its last operand byte, into `hi` or `tmp` by `put`
(R169): PC moves past the byte, and the sequence goes on if the condition holds and ends otherwise. -/
def Decides (i : Instr) (k : Nat) (cc : Cond) (put : Scratch → Byte → Scratch) : Prop :=
  StepDoes i k fun s x t =>
    t = { s with
          cpu := { s.cpu with pc := s.cpu.pc + 1 }
          cur := if s.cpu.cond cc then some ⟨.instr { put x (s.read s.cpu.pc) with taken := true }, k + 1⟩ else none }

/-- The primary opcode `op` is an instruction, and it has the property `P`. -/
def Primary (op : Byte) (P : Instr → Prop) : Prop := ∃ i, decodePrimary op = .instr i ∧ P i

/-- The eight accumulator operations' three operand forms (R260): a register, the byte at HL, the byte at PC. `E` relates
the registers before (PC past the operand), the operand and the registers after. Nothing is stored. -/
def AluForms (op : AluOp) (E : Cpu → Byte → Cpu → Prop) : Prop :=
  (∀ src : R8, Primary (0b10#2 ++ op.code ++ src.code) fun i =>
    StepDoes i 1 fun s _ t => NoStore s t ∧ t.cur = none ∧ E s.cpu (s.cpu.r8 src) t.cpu) ∧
  (Primary (0b10#2 ++ op.code ++ 0b110#3) fun i => Idles i 1 ∧
    StepDoes i 2 fun s _ t => NoStore s t ∧ t.cur = none ∧ E s.cpu (s.read s.cpu.hl) t.cpu) ∧
  (Primary (0b11#2 ++ op.code ++ 0b110#3) fun i => Idles i 1 ∧
    StepDoes i 2 fun s _ t =>
      NoStore s t ∧ t.cur = none ∧ E { s.cpu with pc := s.cpu.pc + 1 } (s.read s.cpu.pc) t.cpu)

/-- An M-cycle's answer from the answer of its step: the ticks of DMA, IME, PPU and timer follow, in this order, unless the
step met a fatal condition (R160, R174). -/
def TicksAfter : Result → Result
  | .next t => .next (if t.fault = none then t.dmaTick.imeTick.ppuTick.timerTick else t)
  | .fault r => .fault r
  | .refused r => .refused r

/-- The pending interrupts (R412). -/
def pending (s : State) : BitVec 5 := s.iflag &&& s.ie.extractLsb' 0 5

/-- The number of a byte of two decimal digits. -/
def decimal (v : Byte) : Nat := v.toNat / 16 * 10 + v.toNat % 16

/-- Both digits of a byte are decimal. -/
def IsDecimal (v : Byte) : Prop := v.toNat / 16 ≤ 9 ∧ v.toNat % 16 ≤ 9

/-- The steps of an instruction from its first, `n` of them, without the ticks between. -/
def execSteps (i : Instr) : Nat → State → Result
  | 0, s => .next s
  | n + 1, s =>
    match exec i s with
    | .next t => execSteps i n t
    | .fault r => .fault r
    | .refused r => .refused r

end Machine

end Sys2Proof
end

