-- ==== Sys2Proof/Certificates/Slice0/Obligations.lean ====
section
/-! DEFINITION. The statements for the provers. Those about instructions are in the terms of Safety.lean: `Primary op P`
and `decodeCb op2` take the instruction from its encoding, and `StepDoes i k R` says that step `k` of instruction `i` answers
a next state in every state that is at that step, and how the two states are related. -/

open Sys2Proof Sys2Proof.Machine

/-! ### Encoding -/

/-- A word of each family, written out from the encodings of 30_encoding.md and 41 to 47, decodes to its instruction. -/
def Obligations.WordsDecode : Prop :=
  decodePrimary 0b01111000#8 = .instr .ld_a_b ∧
  decodePrimary 0b00110110#8 = .instr .ld_mhl_n ∧
  decodePrimary 0b11110001#8 = .instr .pop_af ∧
  decodePrimary 0b10011110#8 = .instr .sbc_a_mhl ∧
  decodePrimary 0b00101001#8 = .instr .add_hl_hl ∧
  decodePrimary 0b00011111#8 = .instr .rra ∧
  decodeCb 0b00110111#8 = .swap_a ∧
  decodeCb 0b01111110#8 = .bit_7_mhl ∧
  decodePrimary 0b00110000#8 = .instr .jr_nc_e ∧
  decodePrimary 0b11011001#8 = .instr .reti ∧
  decodePrimary 0b11101111#8 = .instr .rst_28h ∧
  decodePrimary 0b01110110#8 = .instr .halt ∧
  decodePrimary 0b11011101#8 = .instr .illegal_dd ∧
  decodePrimary 0b11001011#8 = .cbPrefix ∧
  decodeBytes [0x11, 0x34, 0x12, 0x00] = .ok ⟨.ld_de_nn, [0x34, 0x12]⟩ [0x00]

/-- Decoding what the encoder writes gives the instruction back, with every operand byte and with what follows it left
over: for every well-formed instruction of the whole set. -/
def Obligations.EncodeThenDecode : Prop :=
  ∀ (x : Insn) (rest : List Byte), x.wellFormed = true → decodeBytes (encode x ++ rest) = .ok x rest

/-- Encoding what the decoder read gives the bytes back, so that no two byte strings are the same instruction: for every
byte string. The opcode fields of the encoder are those of R122 to R132, the decoder's table is that of R131 and R133. -/
def Obligations.DecodeThenEncode : Prop :=
  ∀ (bs : List Byte) (x : Insn) (rest : List Byte),
    decodeBytes bs = .ok x rest → x.wellFormed = true ∧ encode x ++ rest = bs

/-- R137: each of the 512 inputs is an instruction, the prefix (0xCB only) or illegal (the 11 bytes only), and no two of
them are the same instruction. -/
def Obligations.DecoderTotalAndInjective : Prop :=
  (∀ (b : Byte) (p : Bool), (decodeByte b p = .cbPrefix ↔ b = 0xCB ∧ p = false) ∧
    ((∃ i op, decodeByte b p = .instr i ∧ i.form = .illegal op) ↔
      p = false ∧ b ∈ [0xD3#8, 0xDB, 0xDD, 0xE3, 0xE4, 0xEB, 0xEC, 0xED, 0xF4, 0xFC, 0xFD])) ∧
  (∀ (b b' : Byte) (p p' : Bool) (i : Instr),
    decodeByte b p = .instr i → decodeByte b' p' = .instr i → b = b' ∧ p = p')

/-- R120: an instruction is 1 to 3 bytes long, 2 after a prefix, and its first byte fixes its length. -/
def Obligations.LengthFromFirstByte : Prop :=
  ∀ (x y : Insn), x.wellFormed = true → y.wellFormed = true →
    1 ≤ (encode x).length ∧ (encode x).length ≤ 3 ∧
    ((encode x).head? = some 0xCB → (encode x).length = 2) ∧
    ((encode x).head? = (encode y).head? → (encode x).length = (encode y).length)

/-! ### The step -/

/-- A step at a boundary with no sequence in flight, not halted and with no interrupt to take runs the instruction whose
opcode is at PC (R160, R165), its prefix step for 0xCB; with the host's input taken before and the ticks after. Three
things in it are the model's, not the rules': that the scratch starts with every field zero (`Scratch.fresh`, log 15), that
the host's input is the head of a list (log 8), and that a step is one M-cycle with `exec` its instruction's part (log 1). -/
def Obligations.StepRunsFetchedInstruction : Prop :=
  ∀ s : State, s.fault = none → s.cur = none → s.halted = false →
    ¬ (s.ime = .enabled ∧ pending s.takeInput ≠ 0) →
    let r := s.takeInput
    let op := r.read r.cpu.pc
    let at1 : State := { r with
      cpu := { r.cpu with pc := r.cpu.pc + 1 }
      cur := some ⟨.instr { Scratch.fresh with op := op }, 1⟩ }
    (∀ i, decodePrimary op = .instr i → step s = TicksAfter (exec i at1)) ∧
    (∀ x rest, decodeBytes [op, r.read (r.cpu.pc + 1), r.read (r.cpu.pc + 2)] = .ok x rest →
      x.instr.form.prefixed = false → step s = TicksAfter (exec x.instr at1)) ∧
    (decodePrimary op = .cbPrefix →
      step s = TicksAfter
        (.next { at1 with cur := some ⟨.instr { Scratch.fresh with op := op, cb := true }, 2⟩ }))

/-- A step inside an instruction runs the next step of that instruction (R160): after a prefix the second opcode byte is
read first (R166); otherwise the instruction is the one whose opcode bytes were fetched before. The list the host's input
is taken from is the model's choice (log 8); that a step is one M-cycle with `exec` its instruction's part is its reading
(log 1). -/
def Obligations.StepContinuesInstruction : Prop :=
  ∀ (s : State) (x : Scratch) (k : Nat), s.fault = none → s.cur = some ⟨.instr x, k⟩ → 2 ≤ k →
    let r := s.takeInput
    let op2 := r.read r.cpu.pc
    (x.cb = true → k = 2 → step s = TicksAfter (exec (decodeCb op2) { r with
      cpu := { r.cpu with pc := r.cpu.pc + 1 }
      cur := some ⟨.instr { x with op2 := op2 }, 2⟩ })) ∧
    (x.cb = true → k ≠ 2 → step s = TicksAfter (exec (decodeCb x.op2) r)) ∧
    (x.cb = false → ∀ i, decodePrimary x.op = .instr i → step s = TicksAfter (exec i r))

/-- R440: once a fatal condition is recorded no M-cycle runs, and none is recorded in a state that steps. -/
def Obligations.FaultedMachineIsStuck : Prop :=
  ∀ s : State, (∀ kind, s.fault = some kind → step s = .fault (.fatal kind)) ∧
    (∀ t, step s = .next t → s.fault = none)

/-- R496: a machine that meets no fatal condition always steps, and stays so that it does: from every state whose sequence
in flight has a next step, a step answers a next state of the same kind. The launch has no sequence in flight. That a step
meeting a fatal condition answers a next state is the model's reading (log 2), and the fault of a step number that does not
exist its choice (log 9). -/
def Obligations.RunningMachineAlwaysSteps : Prop :=
  ∀ s : State, s.SeqOk → s.Running → ∃ t, step s = .next t ∧ t.SeqOk

/-- R168, R374: from its first step an instruction takes as many steps as the grids of R131 and R133 say, the taken count
if it is conditional and its condition holds. STOP, the illegal bytes and HALT in the halt-bug condition fault instead. -/
def Obligations.SequenceLengths : Prop :=
  ∀ (i : Instr) (s : State) (x : Scratch), s.cur = some ⟨.instr x, 1⟩ →
    i ≠ .stop → (∀ op, i.form ≠ .illegal op) → (i = .halt → s.ime = .enabled ∨ pending s = 0) →
    let n := match i.form.cond with
      | none => i.form.mcycles
      | some cc => if s.cpu.cond cc then i.form.mcyclesTaken else i.form.mcycles
    (∃ t, execSteps i n s = .next t ∧ t.cur = none) ∧
    (∀ m, m < n → ∃ t y, execSteps i m s = .next t ∧ t.cur = some ⟨.instr y, m + 1⟩)

/-! ### Reset -/

/-- R54: every piece of state after a launch, whatever the open parameters; R483: the state of the profile without a boot
ROM, everything else as after a launch. -/
def Obligations.LaunchValues : Prop :=
  (∀ p : Launch,
    let s := State.launch p
    s.cpu.a = p.a ∧ s.cpu.b = p.b ∧ s.cpu.c = p.c ∧ s.cpu.d = p.d ∧ s.cpu.e = p.e ∧ s.cpu.h = p.h ∧ s.cpu.l = p.l ∧
    s.cpu.f.extractLsb' 4 4 = p.flags ∧ s.cpu.f.extractLsb' 0 4 = 0 ∧ s.cpu.sp = p.sp ∧ s.cpu.pc = 0x0000 ∧
    s.ime = .disabled ∧ s.halted = false ∧ s.cur = none ∧ s.fault = none ∧ s.iflag = p.ifReset ∧ s.ie = 0x00 ∧
    s.timer = { div := p.divReset, tima := 0, tma := 0, tac := 0, reloadPending := false, reloadDue := false } ∧
    s.dma = { src := 0, progress := 0, status := .off, reg := p.dmaRegReset } ∧
    s.bootMapped = true ∧ s.ram = p.ramInit ∧ s.rom = p.cartRom ∧ s.boot = p.bootRom ∧ s.ppu = p.ppu ∧
    s.joypad = p.joypad) ∧
  (∀ p : Launch,
    let s := State.postBoot p
    s.cpu = { a := 0x01, f := 0xB0, b := 0x00, c := 0x13, d := 0x00, e := 0xD8, h := 0x01, l := 0x4D,
              sp := 0xFFFE, pc := 0x0100 } ∧
    s.bootMapped = false ∧ s.ime = .disabled ∧ s.ie = 0x00 ∧ s.iflag = p.ifReset ∧ s.timer.div = p.divReset ∧
    s.dma.reg = p.dmaRegReset ∧ s = { State.launch p with cpu := s.cpu, bootMapped := s.bootMapped })

/-- R481: the first step after a launch runs the instruction at address 0 of the boot ROM, or its prefix step, whatever the
open parameters and whatever the host does before it. The scratch that starts with every field zero (`Scratch.fresh`) is
the model's choice (log 15), and so is the list the host's input is taken from (log 8). -/
def Obligations.FirstStepFetchesBootRom : Prop :=
  ∀ p : Launch,
    let r := (State.launch p).takeInput
    let op := p.bootRom.read 0
    let at1 : State := { r with
      cpu := { r.cpu with pc := 0x0001 }
      cur := some ⟨.instr { Scratch.fresh with op := op }, 1⟩ }
    step (State.launch p) = TicksAfter
      (match decodePrimary op with
        | .instr i => exec i at1
        | .cbPrefix => .next { at1 with cur := some ⟨.instr { Scratch.fresh with op := op, cb := true }, 2⟩ })

/-- The invariants hold after every launch with canonical images, and after `State.reset`. The launch that `State.reset`
stands for is the model's choice (log 3 to 8); the invariants do not depend on it. -/
def Obligations.LaunchMeetsInvariants : Prop :=
  (∀ p : Launch, p.bootRom.wf 256 = true → p.cartRom.wf 32768 = true → p.ramInit.wf 65536 = true →
    p.ppu.Canonical → (∀ x ∈ p.inputs, ∀ q, x.ppu = some q → q.Canonical) →
    let s := State.launch p
    s.FlagsLow ∧ s.Canonical ∧ s.TimerOk ∧ s.DmaOk ∧ s.SeqOk ∧ s.Running) ∧
  State.reset.FlagsLow ∧ State.reset.Canonical ∧ State.reset.TimerOk ∧ State.reset.DmaOk ∧ State.reset.SeqOk ∧
    State.reset.Running

/-! ### Registers -/

/-- R31: a pair is its two registers, the first-named the high byte; writing a pair writes both; writing a half changes
the pair. -/
def Obligations.PairsAreSharedStorage : Prop :=
  ∀ (p : Cpu) (v : Word) (x : Byte),
    p.af.toNat = 256 * p.a.toNat + p.f.toNat ∧ p.bc.toNat = 256 * p.b.toNat + p.c.toNat ∧
    p.de.toNat = 256 * p.d.toNat + p.e.toNat ∧ p.hl.toNat = 256 * p.h.toNat + p.l.toNat ∧
    p.setRp .bc v = { p with b := hi v, c := lo v } ∧ p.setRp .de v = { p with d := hi v, e := lo v } ∧
    p.setRp .hl v = { p with h := hi v, l := lo v } ∧ (p.setRp .bc v).bc = v ∧ (p.setRp .de v).de = v ∧
    (p.setRp .hl v).hl = v ∧ (p.setR8 .b x).bc = cat x p.c ∧ (p.setR8 .c x).bc = cat p.b x ∧
    (p.setR8 .d x).de = cat x p.e ∧ (p.setR8 .e x).de = cat p.d x ∧ (p.setR8 .h x).hl = cat x p.l ∧
    (p.setR8 .l x).hl = cat p.h x ∧ (p.setR8 .a x).af = cat x p.f

/-- R36: bits 3:0 of F are 0 in every state: after every launch, with a boot ROM and without, and after every step from a
state in which they are; the one write of F as a byte, by `pop_af`, drops them. -/
def Obligations.FlagsLowNibbleStaysZero : Prop :=
  (∀ p : Launch, (State.launch p).FlagsLow ∧ (State.postBoot p).FlagsLow) ∧
  (∀ s t : State, s.FlagsLow → step s = .next t → t.FlagsLow) ∧
  (∀ (p : Cpu) (v : Word), p.setRp2 .af v = { p with a := hi v, f := lo v &&& 0xF0#8 })

/-! ### Memory -/

/-- R72, R73: the region of every address. -/
def Obligations.AddressRanges : Prop :=
  ∀ (boot : Bool) (a : Word),
    let n := a.toNat
    region boot a =
      if n ≤ 0x00FF then (if boot then .bootRom else .cartRom)
      else if n ≤ 0x7FFF then .cartRom
      else if n ≤ 0x9FFF then .vram
      else if n ≤ 0xFDFF then .flatRam
      else if n ≤ 0xFE9F then .oam
      else if n ≤ 0xFEFF then .flatRam
      else if n = 0xFF00 then .joypad
      else if n ≤ 0xFF03 then .flatRam
      else if n = 0xFF04 then .div
      else if n = 0xFF05 then .tima
      else if n = 0xFF06 then .tma
      else if n = 0xFF07 then .tac
      else if n ≤ 0xFF0E then .flatRam
      else if n = 0xFF0F then .intFlag
      else if n ≤ 0xFF3F then .flatRam
      else if n = 0xFF46 then .dmaReg
      else if n ≤ 0xFF4B then .ppuRegister
      else if n = 0xFF50 then .unmap
      else if n ≤ 0xFFFE then .flatRam
      else .intEnable

/-- What a read of each region returns (R41, R42, R47, R72, R74, R75, R77, R450, R452). That the default PPU's windows are
one array, and that any other PPU is a constant without a body, are the model's choices (log 6). -/
def Obligations.BusReads : Prop :=
  ∀ (s : State) (a : Word),
    (s.read 0xFF04).toNat = s.timer.div.toNat / 256 ∧ s.read 0xFF05 = s.timer.tima ∧ s.read 0xFF06 = s.timer.tma ∧
    (s.read 0xFF07).toNat = 0xF8 + s.timer.tac.toNat ∧ (s.read 0xFF0F).toNat = 0xE0 + s.iflag.toNat ∧
    s.read 0xFFFF = s.ie ∧ s.read 0xFF46 = s.dma.reg ∧ s.read 0xFF50 = 0xFF ∧
    (a.toNat ≤ 0xFF → s.bootMapped = true → s.read a = s.boot.read a.toNat) ∧
    (a.toNat ≤ 0xFF → s.bootMapped = false → s.read a = s.rom.read a.toNat) ∧
    (0x100 ≤ a.toNat → a.toNat ≤ 0x7FFF → s.read a = s.rom.read a.toNat) ∧
    (s.region a = .flatRam → s.read a = s.ram.read a.toNat) ∧
    (s.ppuOwns a = true → s.ppu.model = .null → s.read a = s.ppu.bytes.read a.toNat) ∧
    (s.ppuOwns a = true → s.ppu.model = .external → s.read a = Config.ppuRead s.ppu.ext
      (if a.toNat ≤ 0x9FFF then .vram else if a.toNat ≤ 0xFE9F then .oam else .register) a) ∧
    s.read 0xFF00 = s.joypad.read

/-- From R77: a byte written to the flat RAM reads back, and nothing else changes. The canonical form of memory, in the
premise and in the last clause, is the model's own (what an unlisted byte reads as: log 5). -/
def Obligations.FlatRamKeepsBytes : Prop :=
  ∀ (s : State) (a : Word) (v : Byte), s.Canonical → s.region a = .flatRam →
    s.read a = s.ram.read a.toNat ∧ (s.write a v).read a = v ∧ (∀ b, b ≠ a → (s.write a v).read b = s.read b) ∧
    s.write a v = { s with ram := (s.write a v).ram } ∧ (s.write a v).Canonical

/-- R75 with R74: a read of the cartridge ROM's addresses returns its byte, where the boot ROM does not lie over it; a write
there is ignored, under the overlay too; and no step changes the cartridge ROM or the boot ROM image (R79). -/
def Obligations.RomNeverChanges : Prop :=
  (∀ (s : State) (a : Word), a.toNat ≤ 0x7FFF → (s.bootMapped = false ∨ 0x100 ≤ a.toNat) →
    s.read a = s.rom.read a.toNat) ∧
  (∀ (s : State) (a : Word) (v : Byte), a.toNat ≤ 0x7FFF → s.write a v = s) ∧
  (∀ s t : State, step s = .next t → t.rom = s.rom ∧ t.boot = s.boot)

/-- The writes to IF, IE, the DMA register, the unmap register, TIMA and TMA (R41, R42, R72, R74, R436), with nothing
else changed; and a batch of writes is its one-byte writes in order, each through the dispatch (R80). -/
def Obligations.DeviceRegisterWrites : Prop :=
  ∀ (s : State) (v : Byte),
    s.write 0xFF0F v = { s with iflag := v.extractLsb' 0 5 } ∧
    s.write 0xFFFF v = { s with ie := v } ∧
    s.write 0xFF50 v = { s with bootMapped := false } ∧
    s.write 0xFF05 v =
      { s with timer := if s.timer.reloadPending then s.timer else { s.timer with tima := v } } ∧
    s.write 0xFF06 v = { s with timer := { s.timer with tma := v } } ∧
    (s.write 0xFF46 v).read 0xFF46 = v ∧
    s.write 0xFF46 v = { s with dma := (s.write 0xFF46 v).dma } ∧
    (∀ (a : Word) (bs : List Byte),
      s.writeBytes a bs = bs.zipIdx.foldl (fun u x => u.write (a + BitVec.ofNat 16 x.2) x.1) s)

/-- The default PPU keeps bytes in its three windows and does nothing in its tick (R450); the tick of any PPU
changes only the PPU and sets only IF[0] and IF[1] (R451); the default joypad reads 0xFF and ignores writes (R452). The
canonical form of memory in the premise is the model's own (log 5), and so is how a PPU's state is held (log 6). -/
def Obligations.DefaultPpuAndJoypad : Prop :=
  (∀ (s : State) (a : Word) (v : Byte), s.Canonical → s.ppu.model = .null → s.ppuOwns a = true →
    (s.write a v).read a = v ∧ (∀ b, b ≠ a → (s.write a v).read b = s.read b) ∧
    s.write a v = { s with ppu := (s.write a v).ppu }) ∧
  (∀ s : State, s.ppu.model = .null → s.ppuTick = s) ∧
  (∀ s : State, s.ppuTick = { s with ppu := s.ppuTick.ppu, iflag := s.ppuTick.iflag } ∧
    ∀ k : Fin 5, (s.iflag[k] = true → s.ppuTick.iflag[k] = true) ∧ (2 ≤ k.val → s.ppuTick.iflag[k] = s.iflag[k])) ∧
  (∀ (s : State) (v : Byte), s.joypad.model = .default → s.read 0xFF00 = 0xFF ∧ s.write 0xFF00 v = s)

/-- R49: reads under the overlay return the boot ROM; a write of any value to 0xFF50, and to no other address, clears it;
no step sets it again. -/
def Obligations.OverlayNeverReturns : Prop :=
  (∀ (s : State) (a : Word), s.bootMapped = true → a.toNat ≤ 0xFF → s.read a = s.boot.read a.toNat) ∧
  (∀ (s : State) (a : Word) (v : Byte), (s.write a v).bootMapped = if a = 0xFF50 then false else s.bootMapped) ∧
  (∀ s t : State, step s = .next t → s.bootMapped = false → t.bootMapped = false)

/-- Every step keeps the canonical form of every memory array, so that equal memories are equal data. The form is the
model's own; an array's size is R50's. -/
def Obligations.MemoryStaysCanonical : Prop :=
  ∀ s t : State, s.Canonical → step s = .next t → t.Canonical

/-! ### Loads and stores -/

/-- R200 to R202, R205, R206, R209, R211, R213, R215, R217: the 70 loads of an 8-bit register, `ld_r_r'`, `ld_r_n`,
`ld_r_mhl`, and A from (BC), (DE), (nn), (0xFF00+C), (0xFF00+n), (HL-) and (HL+). Nothing is stored and no flag changes. -/
def Obligations.LoadRegister : Prop :=
  (∀ dst src : R8, Primary (0b01#2 ++ dst.code ++ src.code) fun i =>
    StepDoes i 1 fun s _ t => NoStore s t ∧ t.cur = none ∧ SetsR8 s.cpu t.cpu dst (s.cpu.r8 src)) ∧
  (∀ dst : R8, Primary (0b00#2 ++ dst.code ++ 0b110#3) fun i => Idles i 1 ∧
    StepDoes i 2 fun s _ t => NoStore s t ∧ t.cur = none ∧
      SetsR8 { s.cpu with pc := s.cpu.pc + 1 } t.cpu dst (s.read s.cpu.pc)) ∧
  (∀ dst : R8, Primary (0b01#2 ++ dst.code ++ 0b110#3) fun i => Idles i 1 ∧
    StepDoes i 2 fun s _ t => NoStore s t ∧ t.cur = none ∧ SetsR8 s.cpu t.cpu dst (s.read s.cpu.hl)) ∧
  (Primary 0x0A fun i => i = .ld_a_mbc ∧ Idles i 1 ∧
    StepDoes i 2 fun s _ t => NoStore s t ∧ t.cur = none ∧ t.cpu = { s.cpu with a := s.read s.cpu.bc }) ∧
  (Primary 0x1A fun i => i = .ld_a_mde ∧ Idles i 1 ∧
    StepDoes i 2 fun s _ t => NoStore s t ∧ t.cur = none ∧ t.cpu = { s.cpu with a := s.read s.cpu.de }) ∧
  (Primary 0xFA fun i => i = .ld_a_mnn ∧ Idles i 1 ∧ FetchesLo i 2 ∧ FetchesHi i 3 ∧
    StepDoes i 4 fun s x t => NoStore s t ∧ t.cur = none ∧ t.cpu = { s.cpu with a := s.read (cat x.hi x.lo) }) ∧
  (Primary 0xF2 fun i => i = .ldh_a_mc ∧ Idles i 1 ∧
    StepDoes i 2 fun s _ t => NoStore s t ∧ t.cur = none ∧ t.cpu = { s.cpu with a := s.read (cat 0xFF s.cpu.c) }) ∧
  (Primary 0xF0 fun i => i = .ldh_a_mn ∧ Idles i 1 ∧ FetchesTmp i 2 ∧
    StepDoes i 3 fun s x t => NoStore s t ∧ t.cur = none ∧ t.cpu = { s.cpu with a := s.read (cat 0xFF x.tmp) }) ∧
  (Primary 0x3A fun i => i = .ld_a_mhld ∧ Idles i 1 ∧
    StepDoes i 2 fun s _ t => NoStore s t ∧ t.cur = none ∧
      t.cpu = { s.cpu with a := s.read s.cpu.hl, h := hi (s.cpu.hl - 1), l := lo (s.cpu.hl - 1) }) ∧
  (Primary 0x2A fun i => i = .ld_a_mhli ∧ Idles i 1 ∧
    StepDoes i 2 fun s _ t => NoStore s t ∧ t.cur = none ∧
      t.cpu = { s.cpu with a := s.read s.cpu.hl, h := hi (s.cpu.hl + 1), l := lo (s.cpu.hl + 1) })

/-- R203, R204, R207, R208, R210, R212, R214, R216, R218: the 15 stores of a byte, `ld_mhl_r`, `ld_mhl_n`, and A to (BC),
(DE), (nn), (0xFF00+C), (0xFF00+n), (HL-) and (HL+). No register changes but HL by the last two. -/
def Obligations.StoreByte : Prop :=
  (∀ src : R8, Primary (0b01110#5 ++ src.code) fun i => Idles i 1 ∧
    StepDoes i 2 fun s _ t => Stores s t s.cpu.hl (s.cpu.r8 src) ∧ t.cpu = s.cpu ∧ t.cur = none) ∧
  (Primary 0x36 fun i => i = .ld_mhl_n ∧ Idles i 1 ∧ FetchesTmp i 2 ∧
    StepDoes i 3 fun s x t => Stores s t s.cpu.hl x.tmp ∧ t.cpu = s.cpu ∧ t.cur = none) ∧
  (Primary 0x02 fun i => i = .ld_mbc_a ∧ Idles i 1 ∧
    StepDoes i 2 fun s _ t => Stores s t s.cpu.bc s.cpu.a ∧ t.cpu = s.cpu ∧ t.cur = none) ∧
  (Primary 0x12 fun i => i = .ld_mde_a ∧ Idles i 1 ∧
    StepDoes i 2 fun s _ t => Stores s t s.cpu.de s.cpu.a ∧ t.cpu = s.cpu ∧ t.cur = none) ∧
  (Primary 0xEA fun i => i = .ld_mnn_a ∧ Idles i 1 ∧ FetchesLo i 2 ∧ FetchesHi i 3 ∧
    StepDoes i 4 fun s x t => Stores s t (cat x.hi x.lo) s.cpu.a ∧ t.cpu = s.cpu ∧ t.cur = none) ∧
  (Primary 0xE2 fun i => i = .ldh_mc_a ∧ Idles i 1 ∧
    StepDoes i 2 fun s _ t => Stores s t (cat 0xFF s.cpu.c) s.cpu.a ∧ t.cpu = s.cpu ∧ t.cur = none) ∧
  (Primary 0xE0 fun i => i = .ldh_mn_a ∧ Idles i 1 ∧ FetchesTmp i 2 ∧
    StepDoes i 3 fun s x t => Stores s t (cat 0xFF x.tmp) s.cpu.a ∧ t.cpu = s.cpu ∧ t.cur = none) ∧
  (Primary 0x32 fun i => i = .ld_mhld_a ∧ Idles i 1 ∧
    StepDoes i 2 fun s _ t => Stores s t s.cpu.hl s.cpu.a ∧ t.cur = none ∧
      t.cpu = { s.cpu with h := hi (s.cpu.hl - 1), l := lo (s.cpu.hl - 1) }) ∧
  (Primary 0x22 fun i => i = .ld_mhli_a ∧ Idles i 1 ∧
    StepDoes i 2 fun s _ t => Stores s t s.cpu.hl s.cpu.a ∧ t.cur = none ∧
      t.cpu = { s.cpu with h := hi (s.cpu.hl + 1), l := lo (s.cpu.hl + 1) })

/-- R230, R231, R240: `ld_bc_nn`, `ld_de_nn`, `ld_hl_nn`, `ld_sp_nn`, `ld_sp_hl` and `ld_mnn_sp`, which stores the low
byte of SP first and the high byte one address up. No flag changes. -/
def Obligations.Load16 : Prop :=
  (∀ d : Rp, Primary (0b00#2 ++ d.code ++ 0b0001#4) fun i => Idles i 1 ∧ FetchesLo i 2 ∧
    StepDoes i 3 fun s x t => NoStore s t ∧ t.cur = none ∧
      SetsRp { s.cpu with pc := s.cpu.pc + 1 } t.cpu d (cat (s.read s.cpu.pc) x.lo)) ∧
  (Primary 0xF9 fun i => i = .ld_sp_hl ∧ Idles i 1 ∧
    StepDoes i 2 fun s _ t => NoStore s t ∧ t.cur = none ∧ t.cpu = { s.cpu with sp := s.cpu.hl }) ∧
  (Primary 0x08 fun i => i = .ld_mnn_sp ∧ Idles i 1 ∧ FetchesLo i 2 ∧ FetchesHi i 3 ∧
    (StepDoes i 4 fun s x t =>
      Stores s t (cat x.hi x.lo) (lo s.cpu.sp) ∧ t.cpu = s.cpu ∧ t.cur = some ⟨.instr x, 5⟩) ∧
    (StepDoes i 5 fun s x t =>
      Stores s t (cat x.hi x.lo + 1) (hi s.cpu.sp) ∧ t.cpu = s.cpu ∧ t.cur = none))

/-- R232 to R236: `push_bc`, `push_de`, `push_hl`, `push_af`, the high byte first at SP - 1, and `pop_bc`, `pop_de`,
`pop_hl`, `pop_af`, which drops the low nibble of F. A push changes only SP, a pop only SP and its pair. R234 reads the
pushed value at Pa; that it is read again at Pb and Pc, where it is the same, is the model's reading (log 12). -/
def Obligations.PushAndPop : Prop :=
  (∀ d : Rp2, Primary (0b11#2 ++ d.code ++ 0b0101#4) fun i => Idles i 1 ∧ PushesDown i 2 ∧
    PushesHi i 3 (fun s => s.cpu.rp2 d) ∧
    StepDoes i 4 fun s _ t => Stores s t s.cpu.sp (lo (s.cpu.rp2 d)) ∧ t.cpu = s.cpu ∧ t.cur = none) ∧
  (∀ d : Rp2, Primary (0b11#2 ++ d.code ++ 0b0001#4) fun i => Idles i 1 ∧ PopsLo i 2 ∧
    StepDoes i 3 fun s x t => NoStore s t ∧ t.cur = none ∧
      SetsRp2 { s.cpu with sp := s.cpu.sp + 1 } t.cpu d
        (if d = .af then cat (s.read s.cpu.sp) x.lo &&& 0xFFF0#16 else cat (s.read s.cpu.sp) x.lo))

/-- R237: a push of any pair followed by a pop into any pair, with no other stack access between, moves the value, the low
nibble of F dropped, and leaves SP where it was, wherever the two stack bytes are kept. The canonical form of memory in the
premise is the model's own (log 5). -/
def Obligations.PushThenPop : Prop :=
  ∀ (d d' : Rp2) (s : State) (x : Scratch), s.Canonical → s.cur = some ⟨.instr x, 1⟩ →
    s.keeps (s.cpu.sp - 1) = true → s.keeps (s.cpu.sp - 2) = true →
    Primary (0b11#2 ++ d.code ++ 0b0101#4) fun push => Primary (0b11#2 ++ d'.code ++ 0b0001#4) fun pop =>
      ∃ u t : State, execSteps push 4 s = .next u ∧ u.cpu.sp = s.cpu.sp - 2 ∧ u.cur = none ∧
        execSteps pop 3 { u with cur := some ⟨.instr x, 1⟩ } = .next t ∧ t.cur = none ∧
        t.cpu.rp2 d' = (if d' = .af then s.cpu.rp2 d &&& 0xFFF0#16 else s.cpu.rp2 d) ∧ t.cpu.sp = s.cpu.sp

/-- R238, R239, R304: `ld_hl_spe` and `add_sp_e`: the sign-extended sum, and the carries of the unsigned add of the low
byte; Z and N are 0. -/
def Obligations.SignedOffsetAdd : Prop :=
  (Primary 0xF8 fun i => i = .ld_hl_spe ∧ Idles i 1 ∧ FetchesTmp i 2 ∧
    StepDoes i 3 fun s x t => NoStore s t ∧ t.cur = none ∧
      t.cpu = { s.cpu with h := t.cpu.h, l := t.cpu.l, f := t.cpu.f } ∧
      t.cpu.hl = s.cpu.sp + x.tmp.signExtend 16 ∧
      FlagsAre t.cpu false false (decide (s.cpu.sp.toNat % 16 + x.tmp.toNat % 16 > 15))
        (decide (s.cpu.sp.toNat % 256 + x.tmp.toNat > 255))) ∧
  (Primary 0xE8 fun i => i = .add_sp_e ∧ Idles i 1 ∧ FetchesTmp i 2 ∧ Idles i 3 ∧
    StepDoes i 4 fun s x t => NoStore s t ∧ t.cur = none ∧
      t.cpu = { s.cpu with sp := t.cpu.sp, f := t.cpu.f } ∧
      t.cpu.sp = s.cpu.sp + x.tmp.signExtend 16 ∧
      FlagsAre t.cpu false false (decide (s.cpu.sp.toNat % 16 + x.tmp.toNat % 16 > 15))
        (decide (s.cpu.sp.toNat % 256 + x.tmp.toNat > 255)))

/-! ### 8-bit arithmetic -/

/-- R261, R262 with R260: the 18 instructions `add_a_r`, `add_a_mhl`, `add_a_n` and `adc_a_r`, `adc_a_mhl`, `adc_a_n`: the
exact sum, with the carry for ADC, modulo 256; the flags of the exact sum (R278). -/
def Obligations.AddAndAdc : Prop :=
  let E := fun (carry : Cpu → Nat) (p : Cpu) (b : Byte) (q : Cpu) =>
    let c := carry p
    OnlyAF p q ∧ q.a.toNat = (p.a.toNat + b.toNat + c) % 256 ∧
    FlagsAre q (decide (q.a = 0)) false (decide (p.a.toNat % 16 + b.toNat % 16 + c > 15))
      (decide (p.a.toNat + b.toNat + c > 255))
  AluForms .add (E fun _ => 0) ∧ AluForms .adc (E fun p => p.f[4].toNat)

/-- R263, R264, R268 with R260: the 27 instructions of SUB, SBC and CP over a register, (HL) and n: the exact difference,
with the borrow for SBC, modulo 256; the borrows of the exact difference (R278); CP keeps A. -/
def Obligations.SubSbcAndCp : Prop :=
  let E := fun (writes : Bool) (borrow : Cpu → Nat) (p : Cpu) (b : Byte) (q : Cpu) =>
    let c := borrow p
    let r := (p.a.toNat + 512 - b.toNat - c) % 256
    OnlyAF p q ∧ q.a.toNat = (if writes then r else p.a.toNat) ∧
    FlagsAre q (decide (r = 0)) true (decide (p.a.toNat % 16 < b.toNat % 16 + c)) (decide (p.a.toNat < b.toNat + c))
  AluForms .sub (E true fun _ => 0) ∧ AluForms .sbc (E true fun p => p.f[4].toNat) ∧ AluForms .cp (E false fun _ => 0)

/-- R265 to R267 with R260: the 27 instructions of AND, XOR and OR over a register, (HL) and n, bit by bit; Z from the
result, N and Cf 0, Hf 1 for AND only. -/
def Obligations.AndXorOr : Prop :=
  let E := fun (g : Bool → Bool → Bool) (half : Bool) (p : Cpu) (b : Byte) (q : Cpu) =>
    OnlyAF p q ∧ (∀ k : Fin 8, q.a[k] = g p.a[k] b[k]) ∧ FlagsAre q (decide (q.a = 0)) false half false
  AluForms .and (E Bool.and true) ∧ AluForms .xor (E Bool.xor false) ∧ AluForms .or (E Bool.or false)

/-- R278, R279: the two-stage composition of the carries is the single-stage one, for every a, b and carry-in; with carry-in 0
the flags of an add are those of R279. -/
def Obligations.SingleStageFlags : Prop :=
  ∀ (a b : Byte) (cin : Bool),
    (add8 a b cin).h = decide (a.toNat % 16 + b.toNat % 16 + cin.toNat > 15) ∧
    (add8 a b cin).c = decide (a.toNat + b.toNat + cin.toNat > 255) ∧
    (sub8 a b cin).h = decide (a.toNat % 16 < b.toNat % 16 + cin.toNat) ∧
    (sub8 a b cin).c = decide (a.toNat < b.toNat + cin.toNat) ∧
    ((add8 a b false).z = true ↔ (a.toNat + b.toNat) % 256 = 0) ∧
    ((add8 a b false).h = true ↔ a.toNat % 16 + b.toNat % 16 > 15) ∧
    ((add8 a b false).c = true ↔ a.toNat + b.toNat > 255)

/-- R270 to R273: the 16 instructions `inc_r`, `inc_mhl`, `dec_r` and `dec_mhl`: the result, Z from it, Hf from the old low
nibble, the carry kept. -/
def Obligations.IncAndDec8 : Prop :=
  ∀ (dec : Bool),
    let z : BitVec 3 := if dec then 0b101 else 0b100
    let res : Byte → Byte := fun v => if dec then v - 1 else v + 1
    let half : Byte → Bool := fun v => if dec then decide (v.toNat % 16 = 0) else decide (v.toNat % 16 = 15)
    (∀ r : R8, Primary (0b00#2 ++ r.code ++ z) fun i =>
      StepDoes i 1 fun s _ t => NoStore s t ∧ t.cur = none ∧
        SetsR8 s.cpu { t.cpu with f := s.cpu.f } r (res (s.cpu.r8 r)) ∧
        FlagsAre t.cpu (decide (res (s.cpu.r8 r) = 0)) dec (half (s.cpu.r8 r)) s.cpu.f[4]) ∧
    (Primary (0b00110#5 ++ z) fun i => Idles i 1 ∧ LoadsTmp i 2 ∧
      StepDoes i 3 fun s x t => Stores s t s.cpu.hl (res x.tmp) ∧ OnlyF s.cpu t.cpu ∧ t.cur = none ∧
        FlagsAre t.cpu (decide (res x.tmp = 0)) dec (half x.tmp) s.cpu.f[4])

/-- R274: `daa`: the correction added after an add, subtracted after a subtract; N kept, Hf 0, Cf only ever set after an
add. -/
def Obligations.DecimalAdjust : Prop :=
  Primary 0x27 fun i => i = .daa ∧
    StepDoes i 1 fun s _ t =>
      let a := s.cpu.a.toNat
      let n := s.cpu.f[6]
      let h := s.cpu.f[5]
      let c := s.cpu.f[4]
      NoStore s t ∧ t.cur = none ∧ OnlyAF s.cpu t.cpu ∧
      t.cpu.a.toNat =
        (if n then (a + 512 - (if c then 0x60 else 0) - (if h then 0x06 else 0)) % 256
         else (a + (if c ∨ a > 0x99 then 0x60 else 0) + (if h ∨ a % 16 > 9 then 0x06 else 0)) % 256) ∧
      FlagsAre t.cpu (decide (t.cpu.a = 0)) n false (if n then c else (c || decide (a > 0x99)))

/-- R274 does what DAA is for: after an add or a subtract of two bytes of decimal digits, with a carry-in, it leaves the
decimal digits of the sum or of the difference, and Cf is its hundred. -/
def Obligations.DecimalAdjustIsDecimal : Prop :=
  ∀ (a b : Byte) (cin : Bool), IsDecimal a → IsDecimal b →
    (let r := add8 a b cin
     let d := daa8 r.val r.n r.h r.c
     IsDecimal d.val ∧ decimal d.val + (if d.c then 100 else 0) = decimal a + decimal b + cin.toNat) ∧
    (let r := sub8 a b cin
     let d := daa8 r.val r.n r.h r.c
     IsDecimal d.val ∧ decimal d.val + decimal b + cin.toNat = decimal a + (if d.c then 100 else 0))

/-- R275 to R277: `cpl` complements A and sets N and Hf; `scf` sets and `ccf` inverts the carry and clears N and Hf; Z is
kept by all three, A by the last two. -/
def Obligations.ComplementAndCarry : Prop :=
  (Primary 0x2F fun i => i = .cpl ∧
    StepDoes i 1 fun s _ t => NoStore s t ∧ t.cur = none ∧ OnlyAF s.cpu t.cpu ∧
      t.cpu.a.toNat = 255 - s.cpu.a.toNat ∧ FlagsAre t.cpu s.cpu.f[7] true true s.cpu.f[4]) ∧
  (Primary 0x37 fun i => i = .scf ∧
    StepDoes i 1 fun s _ t => NoStore s t ∧ t.cur = none ∧ OnlyF s.cpu t.cpu ∧
      FlagsAre t.cpu s.cpu.f[7] false false true) ∧
  (Primary 0x3F fun i => i = .ccf ∧
    StepDoes i 1 fun s _ t => NoStore s t ∧ t.cur = none ∧ OnlyF s.cpu t.cpu ∧
      FlagsAre t.cpu s.cpu.f[7] false false (!s.cpu.f[4]))

/-! ### 16-bit arithmetic -/

/-- R300, R302: the eight `inc_rr` and `dec_rr`, modulo 2^16, with no flag changed. -/
def Obligations.IncAndDec16 : Prop :=
  ∀ d : Rp,
    (Primary (0b00#2 ++ d.code ++ 0b0011#4) fun i => Idles i 1 ∧
      StepDoes i 2 fun s _ t => NoStore s t ∧ t.cur = none ∧ SetsRp s.cpu t.cpu d (s.cpu.rp d + 1)) ∧
    (Primary (0b00#2 ++ d.code ++ 0b1011#4) fun i => Idles i 1 ∧
      StepDoes i 2 fun s _ t => NoStore s t ∧ t.cur = none ∧ SetsRp s.cpu t.cpu d (s.cpu.rp d - 1))

/-- R301: the four `add_hl_rr`: after its two steps HL is the sum modulo 2^16, Hf and Cf are the carries out of bits 11 and
15 of the sum, N is 0, Z is kept, and no other register changes. -/
def Obligations.AddPairToHl : Prop :=
  ∀ d : Rp, Primary (0b00#2 ++ d.code ++ 0b1001#4) fun i =>
    (∀ s x, s.cur = some ⟨.instr x, 1⟩ →
      ∃ u, exec i s = .next u ∧ NoStore s u ∧ ∃ y, u.cur = some ⟨.instr y, 2⟩) ∧
    (∀ s x, s.cur = some ⟨.instr x, 1⟩ →
      ∃ t, execSteps i 2 s = .next t ∧ NoStore s t ∧ t.cur = none ∧
        t.cpu = { s.cpu with h := t.cpu.h, l := t.cpu.l, f := t.cpu.f } ∧ t.cpu.hl = s.cpu.hl + s.cpu.rp d ∧
        FlagsAre t.cpu s.cpu.f[7] false
          (decide (s.cpu.hl.toNat % 4096 + (s.cpu.rp d).toNat % 4096 > 4095))
          (decide (s.cpu.hl.toNat + (s.cpu.rp d).toNat > 65535)))

/-! ### Rotates, shifts and bits -/

/-- R325: the eight rotate and shift functions and their carry-outs. -/
def Obligations.RotateFunctions : Prop :=
  ∀ (v : Byte) (cin : Bool),
    ((rotate .rlc v cin).val = v.rotateLeft 1 ∧ (rotate .rlc v cin).co = v[7]) ∧
    ((rotate .rrc v cin).val = v.rotateRight 1 ∧ (rotate .rrc v cin).co = v[0]) ∧
    ((rotate .rl v cin).val.toNat = (2 * v.toNat + cin.toNat) % 256 ∧ (rotate .rl v cin).co = v[7]) ∧
    ((rotate .rr v cin).val.toNat = v.toNat / 2 + 128 * cin.toNat ∧ (rotate .rr v cin).co = v[0]) ∧
    ((rotate .sla v cin).val.toNat = 2 * v.toNat % 256 ∧ (rotate .sla v cin).co = v[7]) ∧
    ((rotate .sra v cin).val = v.sshiftRight 1 ∧ (rotate .sra v cin).co = v[0]) ∧
    ((rotate .swap v cin).val.toNat = v.toNat % 16 * 16 + v.toNat / 16 ∧ (rotate .swap v cin).co = false) ∧
    ((rotate .srl v cin).val.toNat = v.toNat / 2 ∧ (rotate .srl v cin).co = v[0])

/-- R321 to R324, R326 to R334: `rlca`, `rrca`, `rla`, `rra`, which clear Z, and the 64 rotates and shifts after the prefix,
`rlc_r` to `srl_mhl`, which set Z from the result; N and Hf are 0 and Cf is the carry-out. -/
def Obligations.RotatesAndShifts : Prop :=
  (∀ p ∈ [((0x07 : Byte), RotOp.rlc), (0x0F, .rrc), (0x17, .rl), (0x1F, .rr)], Primary p.1 fun i =>
    StepDoes i 1 fun s _ t =>
      let r := rotate p.2 s.cpu.a s.cpu.f[4]
      NoStore s t ∧ t.cur = none ∧ OnlyAF s.cpu t.cpu ∧ t.cpu.a = r.val ∧ FlagsAre t.cpu false false false r.co) ∧
  (∀ (op : RotOp) (dst : R8),
    StepDoes (decodeCb (0b00#2 ++ op.code ++ dst.code)) 2 fun s _ t =>
      let r := rotate op (s.cpu.r8 dst) s.cpu.f[4]
      NoStore s t ∧ t.cur = none ∧ SetsR8 s.cpu { t.cpu with f := s.cpu.f } dst r.val ∧
      FlagsAre t.cpu (decide (r.val = 0)) false false r.co) ∧
  (∀ op : RotOp,
    let i := decodeCb (0b00#2 ++ op.code ++ 0b110#3)
    Idles i 2 ∧ LoadsTmp i 3 ∧
    StepDoes i 4 fun s x t =>
      let r := rotate op x.tmp s.cpu.f[4]
      Stores s t s.cpu.hl r.val ∧ OnlyF s.cpu t.cpu ∧ t.cur = none ∧
      FlagsAre t.cpu (decide (r.val = 0)) false false r.co)

/-- R335: the 64 `bit_b_r` and `bit_b_mhl`: Z is the tested bit inverted, N 0, Hf 1, Cf kept; nothing else changes, and the
memory form has no write step. -/
def Obligations.BitTest : Prop :=
  ∀ b : Fin 8,
    (∀ dst : R8, StepDoes (decodeCb (0b01#2 ++ BitVec.ofNat 3 b.val ++ dst.code)) 2 fun s _ t =>
      NoStore s t ∧ t.cur = none ∧ OnlyF s.cpu t.cpu ∧ FlagsAre t.cpu (!(s.cpu.r8 dst)[b]) false true s.cpu.f[4]) ∧
    (let i := decodeCb (0b01#2 ++ BitVec.ofNat 3 b.val ++ 0b110#3)
     Idles i 2 ∧ StepDoes i 3 fun s _ t =>
      NoStore s t ∧ t.cur = none ∧ OnlyF s.cpu t.cpu ∧
      FlagsAre t.cpu (!(s.read s.cpu.hl)[b]) false true s.cpu.f[4])

/-- R336, R337: the 128 `res_b_r`, `res_b_mhl`, `set_b_r` and `set_b_mhl`: the bit is cleared or set, every other bit and
every flag kept. -/
def Obligations.BitResetAndSet : Prop :=
  ∀ (set : Bool) (b : Fin 8),
    let x : BitVec 2 := if set then 0b11 else 0b10
    let Res : Byte → Byte → Prop := fun v w => ∀ k : Fin 8, w[k] = if k = b then set else v[k]
    (∀ dst : R8, StepDoes (decodeCb (x ++ BitVec.ofNat 3 b.val ++ dst.code)) 2 fun s _ t =>
      NoStore s t ∧ t.cur = none ∧ ∃ w, Res (s.cpu.r8 dst) w ∧ SetsR8 s.cpu t.cpu dst w) ∧
    (let i := decodeCb (x ++ BitVec.ofNat 3 b.val ++ 0b110#3)
     Idles i 2 ∧ LoadsTmp i 3 ∧ StepDoes i 4 fun s y t =>
      t.cur = none ∧ t.cpu = s.cpu ∧ ∃ w, Res y.tmp w ∧ Stores s t s.cpu.hl w)

/-! ### Control transfer -/

/-- R360 to R365: `jp_nn`, the four `jp_cc_nn`, `jp_hl`, `jr_e` and the four `jr_cc_e`: only PC changes; an untaken jump
ends at its decision with PC past the operands. -/
def Obligations.Jumps : Prop :=
  (∀ p : Cpu, p.cond .nz = !p.f[7] ∧ p.cond .z = p.f[7] ∧ p.cond .nc = !p.f[4] ∧ p.cond .c = p.f[4]) ∧
  (Primary 0xC3 fun i => i = .jp_nn ∧ Idles i 1 ∧ FetchesLo i 2 ∧ FetchesHi i 3 ∧
    StepDoes i 4 fun s x t => t = { s with cpu := { s.cpu with pc := cat x.hi x.lo }, cur := none }) ∧
  (∀ cc : Cond, Primary (0b110#3 ++ cc.code ++ 0b010#3) fun i => Idles i 1 ∧ FetchesLo i 2 ∧
    Decides i 3 cc (fun x v => { x with hi := v }) ∧
    StepDoes i 4 fun s x t => t = { s with cpu := { s.cpu with pc := cat x.hi x.lo }, cur := none }) ∧
  (Primary 0xE9 fun i => i = .jp_hl ∧
    StepDoes i 1 fun s _ t => t = { s with cpu := { s.cpu with pc := s.cpu.hl }, cur := none }) ∧
  (Primary 0x18 fun i => i = .jr_e ∧ Idles i 1 ∧ FetchesTmp i 2 ∧
    StepDoes i 3 fun s x t =>
      t = { s with cpu := { s.cpu with pc := s.cpu.pc + x.tmp.signExtend 16 }, cur := none }) ∧
  (∀ cc : Cond, Primary (0b001#3 ++ cc.code ++ 0b000#3) fun i => Idles i 1 ∧
    Decides i 2 cc (fun x v => { x with tmp := v }) ∧
    StepDoes i 3 fun s x t =>
      t = { s with cpu := { s.cpu with pc := s.cpu.pc + x.tmp.signExtend 16 }, cur := none })

/-- R366, R367, R373: `call_nn`, the four `call_cc_nn` and the eight `rst`: the address after the instruction is pushed, its
high byte first, and PC is the target; only SP and PC change. An untaken call ends at its decision. R234 and R373 read the
pushed PC at Pa; that it is read again at Pb and Pc, where it is the same, is the model's reading (log 12). -/
def Obligations.CallsAndRestarts : Prop :=
  (Primary 0xCD fun i => i = .call_nn ∧ Idles i 1 ∧ FetchesLo i 2 ∧ FetchesHi i 3 ∧ PushesDown i 4 ∧
    PushesHi i 5 (fun s => s.cpu.pc) ∧
    StepDoes i 6 fun s x t => Stores s t s.cpu.sp (lo s.cpu.pc) ∧ t.cur = none ∧
      t.cpu = { s.cpu with pc := cat x.hi x.lo }) ∧
  (∀ cc : Cond, Primary (0b110#3 ++ cc.code ++ 0b100#3) fun i => Idles i 1 ∧ FetchesLo i 2 ∧
    Decides i 3 cc (fun x v => { x with hi := v }) ∧ PushesDown i 4 ∧ PushesHi i 5 (fun s => s.cpu.pc) ∧
    StepDoes i 6 fun s x t => Stores s t s.cpu.sp (lo s.cpu.pc) ∧ t.cur = none ∧
      t.cpu = { s.cpu with pc := cat x.hi x.lo }) ∧
  (∀ y : Fin 8, Primary (0b11#2 ++ BitVec.ofNat 3 y.val ++ 0b111#3) fun i => Idles i 1 ∧ PushesDown i 2 ∧
    PushesHi i 3 (fun s => s.cpu.pc) ∧
    StepDoes i 4 fun s _ t => Stores s t s.cpu.sp (lo s.cpu.pc) ∧ t.cur = none ∧
      t.cpu = { s.cpu with pc := BitVec.ofNat 16 (8 * y.val) })

/-- R368 to R370: `ret`, the four `ret_cc` and `reti`: PC is popped, low byte first; only SP and PC change, and IME by RETI's
first step. An untaken return ends at its decision with no stack access. -/
def Obligations.Returns : Prop :=
  (Primary 0xC9 fun i => i = .ret ∧ Idles i 1 ∧ PopsLo i 2 ∧ PopsHi i 3 ∧
    StepDoes i 4 fun s x t => t = { s with cpu := { s.cpu with pc := cat x.hi x.lo }, cur := none }) ∧
  (∀ cc : Cond, Primary (0b110#3 ++ cc.code ++ 0b000#3) fun i => Idles i 1 ∧
    (StepDoes i 2 fun s x t =>
      t = { s with cur := if s.cpu.cond cc then some ⟨.instr { x with taken := true }, 3⟩ else none }) ∧
    PopsLo i 3 ∧ PopsHi i 4 ∧
    StepDoes i 5 fun s x t => t = { s with cpu := { s.cpu with pc := cat x.hi x.lo }, cur := none }) ∧
  (Primary 0xD9 fun i => i = .reti ∧
    (StepDoes i 1 fun s x t => t = { s with ime := .scheduledInitial, cur := some ⟨.instr x, 2⟩ }) ∧
    PopsLo i 2 ∧ PopsHi i 3 ∧
    StepDoes i 4 fun s x t => t = { s with cpu := { s.cpu with pc := cat x.hi x.lo }, cur := none })

/-! ### System instructions -/

/-- R390, R395, R396: `nop` changes nothing, `di` only IME, `ei` only a Disabled IME. -/
def Obligations.NopDiEi : Prop :=
  (Primary 0x00 fun i => i = .nop ∧ StepDoes i 1 fun s _ t => t = { s with cur := none }) ∧
  (Primary 0xF3 fun i => i = .di ∧ StepDoes i 1 fun s _ t => t = { s with ime := .disabled, cur := none }) ∧
  (Primary 0xFB fun i => i = .ei ∧
    StepDoes i 1 fun s _ t =>
      t = { s with ime := if s.ime = .disabled then .scheduledInitial else s.ime, cur := none })

/-- R392, R393: `halt` halts, and only that, unless IME is not Enabled and an enabled interrupt is requested: then it raises
the fatal condition of the halt bug and changes nothing else. That the state with the condition recorded is answered as a
next state, its sequence as it was, is the model's reading (log 2). -/
def Obligations.HaltAndHaltBug : Prop :=
  Primary 0x76 fun i => i = .halt ∧
    ∀ s x, s.cur = some ⟨.instr x, 1⟩ →
      (s.ime = .enabled ∨ pending s = 0 → exec i s = .next { s with halted := true, cur := none }) ∧
      (s.ime ≠ .enabled → pending s ≠ 0 → exec i s = .next { s with fault := some .haltBugNotModelled })

/-- R391, R394, R441: `stop` and the 11 illegal bytes record their fatal condition at their first step and change nothing
else. That the state with the condition recorded is answered as a next state, its sequence as it was, is the model's reading
(log 2). -/
def Obligations.StopAndIllegalAreFatal : Prop :=
  (Primary 0x10 fun i => i = .stop ∧
    StepDoes i 1 fun s _ t => t = { s with fault := some .stopNotModelled }) ∧
  (∀ op ∈ [0xD3#8, 0xDB, 0xDD, 0xE3, 0xE4, 0xEB, 0xEC, 0xED, 0xF4, 0xFC, 0xFD], Primary op fun i =>
    StepDoes i 1 fun s _ t => t = { s with fault := some (.illegalOpcode op) })

/-- R40, R43, R441: over all instructions, only EI, DI and RETI write IME, only HALT writes `halted`, and only STOP, HALT and
the illegal bytes raise a fatal condition. -/
def Obligations.ControlStateWriters : Prop :=
  ∀ (i : Instr) (s t : State), exec i s = .next t →
    (i ≠ .ei → i ≠ .di → i ≠ .reti → t.ime = s.ime) ∧
    (i ≠ .halt → t.halted = s.halted) ∧
    (t.fault ≠ s.fault → i = .stop ∨ i = .halt ∨ ∃ op, i.form = .illegal op)

/-! ### Interrupts -/

/-- R161 to R164, R420, R421, R423: the decision at a boundary: the lowest pending interrupt if IME is Enabled; else a halted
step; else a fetch. With it, R160: a step at a boundary runs the sequence the decision chose. That a fetch starts with every
scratch field zero (`Scratch.fresh`) is the model's choice (log 15), and so is the list of the host's inputs (log 8). -/
def Obligations.SchedulingDecision : Prop :=
  ∀ s : State,
    (s.ime = .enabled → ∀ i : Fin 5, (pending s)[i] = true → (∀ j : Fin 5, j < i → (pending s)[j] = false) →
      s.schedule =
        { s with
          iflag := s.iflag &&& ~~~(1#5 <<< i.val)
          ime := .disabled
          halted := false
          cur := some ⟨.service (BitVec.ofNat 16 (0x40 + 8 * i.val)), 1⟩ }) ∧
    (s.ime ≠ .enabled ∨ pending s = 0 → s.halted = true →
      s.schedule =
        if pending s = 0 then { s with cur := some ⟨.haltWait, 1⟩ }
        else { s with halted := false, cur := some ⟨.haltResume, 1⟩ }) ∧
    (s.ime ≠ .enabled ∨ pending s = 0 → s.halted = false →
      s.schedule = { s with cur := some ⟨.instr .fresh, 1⟩ }) ∧
    (s.fault = none → s.cur = none → step s = TicksAfter (perform s.takeInput.schedule))

/-- R163, R422: a halted sequence is one internal step; the service sequence is two internal steps, two stores of PC below
SP, the high byte first, and the jump. The ticks follow each of them (R160). The list the host's input is taken from is the
model's choice (log 8). -/
def Obligations.ServiceSequence : Prop :=
  (∀ (s : State) (q : Seq), s.fault = none → s.cur = some q → step s = TicksAfter (perform s.takeInput)) ∧
  (∀ s : State, s.cur = some ⟨.haltWait, 1⟩ ∨ s.cur = some ⟨.haltResume, 1⟩ →
    perform s = .next { s with cur := none }) ∧
  (∀ (s : State) (v : Word),
    (s.cur = some ⟨.service v, 1⟩ → perform s = .next { s with cur := some ⟨.service v, 2⟩ }) ∧
    (s.cur = some ⟨.service v, 2⟩ → perform s = .next { s with cur := some ⟨.service v, 3⟩ }) ∧
    (s.cur = some ⟨.service v, 3⟩ → ∃ t, perform s = .next t ∧ Stores s t (s.cpu.sp - 1) (hi s.cpu.pc) ∧
      t.cpu = { s.cpu with sp := s.cpu.sp - 1 } ∧ t.cur = some ⟨.service v, 4⟩) ∧
    (s.cur = some ⟨.service v, 4⟩ → ∃ t, perform s = .next t ∧ Stores s t (s.cpu.sp - 1) (lo s.cpu.pc) ∧
      t.cpu = { s.cpu with sp := s.cpu.sp - 1 } ∧ t.cur = some ⟨.service v, 5⟩) ∧
    (s.cur = some ⟨.service v, 5⟩ →
      perform s = .next { s with cpu := { s.cpu with pc := v }, cur := none }))

/-- R416 to R418: EI takes effect after the next instruction, whatever is pending: the step of an EI with IME Disabled leaves
IME ScheduledNext, the decision in that state fetches, and the first step of what it fetches leaves IME Enabled, unless that
is a DI or a RETI. The list the host's input is taken from is the model's choice (log 8). -/
def Obligations.EiLatency : Prop :=
  (∀ s : State, s.imeTick =
    { s with ime := match s.ime with
      | .disabled => .disabled
      | .scheduledInitial => .scheduledNext
      | .scheduledNext => .enabled
      | .enabled => .enabled }) ∧
  (∀ s : State, s.fault = none → s.cur = none → s.halted = false → s.ime = .disabled →
    s.takeInput.read s.cpu.pc = 0xFB →
    ∃ t, step s = .next t ∧ t.fault = none ∧ t.cur = none ∧ t.ime = .scheduledNext ∧ t.cpu.pc = s.cpu.pc + 1) ∧
  (∀ s t : State, s.fault = none → s.cur = none → s.halted = false → s.ime = .scheduledNext → step s = .next t →
    t.fault = none →
    let op := s.takeInput.read s.cpu.pc
    t.ime = if op = 0xF3 then .disabled else if op = 0xD9 then .scheduledNext else .enabled)

/-- R175, R453: what the host does at a boundary, before the decision: it may set IF[4] and may replace the joypad's and the
PPU's state, and changes nothing else. That it is read from a list is the model's choice (log 8). -/
def Obligations.HostInputAtBoundary : Prop :=
  ∀ s : State,
    (s.inputs = [] → s.takeInput = s) ∧
    (∀ x xs, s.inputs = x :: xs →
      s.takeInput =
        { s with
          iflag := if x.joypadIrq then s.iflag ||| 0b10000#5 else s.iflag
          joypad := x.joypad.getD s.joypad
          ppu := x.ppu.getD s.ppu
          inputs := xs })

/-! ### Timer -/

/-- R46, R431 to R434: the effective signal, the TIMA increment, the writes to DIV and TAC with their falling-edge side
effect, and the tick: the reload that is due with its request, the divider, the falling edge, the latch. -/
def Obligations.TimerWritesAndTick : Prop :=
  (∀ (div : Word) (tac : BitVec 3), timerSig div tac =
    (tac[2] && div.getLsbD (if tac.toNat % 4 = 0 then 9 else if tac.toNat % 4 = 1 then 3
      else if tac.toNat % 4 = 2 then 5 else 7))) ∧
  (∀ t : Timer, t.incTima =
    if t.tima = 0xFF then { t with tima := 0x00, reloadPending := true } else { t with tima := t.tima + 1 }) ∧
  (∀ (s : State) (v : Byte),
    let t := { s.timer with div := 0 }
    s.write 0xFF04 v = { s with timer := if timerSig s.timer.div s.timer.tac then t.incTima else t }) ∧
  (∀ (s : State) (v : Byte),
    let t := { s.timer with tac := BitVec.ofNat 3 v.toNat }
    s.write 0xFF07 v =
      { s with timer :=
          if timerSig s.timer.div s.timer.tac = true ∧ timerSig t.div t.tac = false then t.incTima else t }) ∧
  (∀ s : State,
     let t := if s.timer.reloadDue then { s.timer with tima := s.timer.tma, reloadPending := false } else s.timer
     let u := { t with div := t.div + 4 }
     let w := if timerSig t.div t.tac = true ∧ timerSig u.div u.tac = false then u.incTima else u
     s.timerTick =
       { s with
         timer := { w with reloadDue := w.reloadPending }
         iflag := if s.timer.reloadDue then s.iflag ||| 0b00100#5 else s.iflag })

/-- R435: TIMA reads 0 for one whole M-cycle after an overflow, then TMA, and only then is the timer interrupt requested:
for an overflow in a tick, and for one caused by a write to DIV or TAC, whose own tick does not reload. -/
def Obligations.OverflowTiming : Prop :=
  (∀ s : State, s.timer.reloadPending = false → s.timer.reloadDue = false → s.timer.tima = 0xFF →
    timerSig s.timer.div s.timer.tac = true → timerSig (s.timer.div + 4) s.timer.tac = false →
    let u := s.timerTick
    let t := u.timerTick
    u.timer.tima = 0 ∧ u.timer.reloadPending = true ∧ u.iflag = s.iflag ∧
    t.timer.tima = s.timer.tma ∧ t.timer.reloadPending = false ∧ t.iflag = s.iflag ||| 0b00100#5) ∧
  (∀ (s : State) (a : Word) (v : Byte), a = 0xFF04 ∨ a = 0xFF07 → s.timer.reloadPending = false →
    s.timer.reloadDue = false → s.timer.tima = 0xFF → (s.write a v).timer.tima = 0 →
    let u := (s.write a v).timerTick
    let t := u.timerTick
    (s.write a v).timer.reloadPending = true ∧ u.timer.tima = 0 ∧ u.timer.reloadPending = true ∧ u.iflag = s.iflag ∧
    t.timer.tima = s.timer.tma ∧ t.timer.reloadPending = false ∧ t.iflag = s.iflag ||| 0b00100#5)

/-- R437 with R45: from a divider of 0, with the timer enabled, `n` ticks add `n` divided by 256, 4, 16 or 64 to TIMA for
TAC[1:0] 0 to 3, as long as it does not overflow. -/
def Obligations.TimerRate : Prop :=
  ∀ (t : Timer) (n : Nat), t.div = 0 → t.tac[2] = true → t.reloadPending = false → t.reloadDue = false →
    let m := if t.tac.toNat % 4 = 0 then 256 else if t.tac.toNat % 4 = 1 then 4
      else if t.tac.toNat % 4 = 2 then 16 else 64
    t.tima.toNat + n / m ≤ 255 →
    (Timer.tick^[n] t).tima.toNat = t.tima.toNat + n / m ∧ (Timer.tick^[n] t).div.toNat = 4 * n % 65536 ∧
    (Timer.tick^[n] t).reloadPending = false

/-! ### DMA -/

/-- R442, R443: a write to 0xFF46 keeps the byte and, unless it is 0, starts a transfer from its page; a tick does nothing
while Off, spends two ticks on the start, and then copies one byte of the source to OAM. -/
def Obligations.DmaStartAndTick : Prop :=
  (∀ (s : State) (v : Byte),
    s.write 0xFF46 v =
      if v = 0 then { s with dma := { s.dma with reg := 0 } }
      else { s with dma := { src := v ++ 0#8, progress := 0, status := .scheduledInitial, reg := v } }) ∧
  (∀ s : State,
    (s.dma.status = .off → s.dmaTick = s) ∧
    (s.dma.status = .scheduledInitial → s.dmaTick = { s with dma := { s.dma with status := .scheduledNext } }) ∧
    (s.dma.status = .scheduledNext → s.dmaTick = { s with dma := { s.dma with status := .inProgress } }) ∧
    (s.dma.status = .inProgress →
      let off := BitVec.ofNat 16 s.dma.progress.toNat
      s.dmaTick =
        { s with
          ppu := s.ppu.write .oam (0xFE00 + off) (s.read (s.dma.src + off))
          dma := { s.dma with
            progress := s.dma.progress + 1
            status := if s.dma.progress = 159 then .off else .inProgress } }))

/-- R444 with the source's property: after the write that starts a transfer, 162 DMA ticks and no fewer end it, and the 160
bytes of OAM are then the source's, whichever page it is, with the default PPU. The canonical form of memory in the premise
is the model's own (log 5), and so is the array the default PPU keeps its bytes in (log 6). -/
def Obligations.DmaTransfer : Prop :=
  ∀ (s : State) (v : Byte), s.Canonical → s.ppu.model = .null → v ≠ 0 →
    let s0 := s.write 0xFF46 v
    (∀ n, n < 162 → (State.dmaTick^[n] s0).dma.status ≠ .off) ∧
    (State.dmaTick^[162] s0).dma.status = .off ∧
    (∀ k, k < 160 → (State.dmaTick^[162] s0).read (0xFE00 + BitVec.ofNat 16 k) =
      s0.read ((v ++ 0#8) + BitVec.ofNat 16 k)) ∧
    (∀ a : Word, s.region a ≠ .oam → (State.dmaTick^[162] s0).read a = s0.read a)

/-- Between M-cycles the timer's latches agree and TIMA is 0 in the reload window (R44, R436), and the DMA's progress stays in
range (R48, R446): every step keeps both. -/
def Obligations.DeviceInvariantsKept : Prop :=
  (∀ s t : State, s.TimerOk → step s = .next t → t.TimerOk) ∧
  (∀ s t : State, s.DmaOk → step s = .next t → t.DmaOk)
end

