-- ==== Sys2Proof/Laws/State.lean ====
section
/-! SUPPORT. What each update of the state does to each field, and what the register setters do to the register file:
true by definition, for simp, so that no proof unfolds a record update. -/

namespace Sys2Proof.Machine

variable (s : State)

@[simp] theorem State.setCpu_cpu (p : Cpu) : (s.setCpu p).cpu = p := rfl
@[simp] theorem State.setCpu_ime (p : Cpu) : (s.setCpu p).ime = s.ime := rfl
@[simp] theorem State.setCpu_iflag (p : Cpu) : (s.setCpu p).iflag = s.iflag := rfl
@[simp] theorem State.setCpu_ie (p : Cpu) : (s.setCpu p).ie = s.ie := rfl
@[simp] theorem State.setCpu_halted (p : Cpu) : (s.setCpu p).halted = s.halted := rfl
@[simp] theorem State.setCpu_timer (p : Cpu) : (s.setCpu p).timer = s.timer := rfl
@[simp] theorem State.setCpu_dma (p : Cpu) : (s.setCpu p).dma = s.dma := rfl
@[simp] theorem State.setCpu_bootMapped (p : Cpu) : (s.setCpu p).bootMapped = s.bootMapped := rfl
@[simp] theorem State.setCpu_boot (p : Cpu) : (s.setCpu p).boot = s.boot := rfl
@[simp] theorem State.setCpu_rom (p : Cpu) : (s.setCpu p).rom = s.rom := rfl
@[simp] theorem State.setCpu_ram (p : Cpu) : (s.setCpu p).ram = s.ram := rfl
@[simp] theorem State.setCpu_ppu (p : Cpu) : (s.setCpu p).ppu = s.ppu := rfl
@[simp] theorem State.setCpu_joypad (p : Cpu) : (s.setCpu p).joypad = s.joypad := rfl
@[simp] theorem State.setCpu_cur (p : Cpu) : (s.setCpu p).cur = s.cur := rfl
@[simp] theorem State.setCpu_fault (p : Cpu) : (s.setCpu p).fault = s.fault := rfl
@[simp] theorem State.setCpu_inputs (p : Cpu) : (s.setCpu p).inputs = s.inputs := rfl

@[simp] theorem State.setIme_cpu (v : Ime) : (s.setIme v).cpu = s.cpu := rfl
@[simp] theorem State.setIme_ime (v : Ime) : (s.setIme v).ime = v := rfl
@[simp] theorem State.setIme_iflag (v : Ime) : (s.setIme v).iflag = s.iflag := rfl
@[simp] theorem State.setIme_ie (v : Ime) : (s.setIme v).ie = s.ie := rfl
@[simp] theorem State.setIme_halted (v : Ime) : (s.setIme v).halted = s.halted := rfl
@[simp] theorem State.setIme_timer (v : Ime) : (s.setIme v).timer = s.timer := rfl
@[simp] theorem State.setIme_dma (v : Ime) : (s.setIme v).dma = s.dma := rfl
@[simp] theorem State.setIme_bootMapped (v : Ime) : (s.setIme v).bootMapped = s.bootMapped := rfl
@[simp] theorem State.setIme_boot (v : Ime) : (s.setIme v).boot = s.boot := rfl
@[simp] theorem State.setIme_rom (v : Ime) : (s.setIme v).rom = s.rom := rfl
@[simp] theorem State.setIme_ram (v : Ime) : (s.setIme v).ram = s.ram := rfl
@[simp] theorem State.setIme_ppu (v : Ime) : (s.setIme v).ppu = s.ppu := rfl
@[simp] theorem State.setIme_joypad (v : Ime) : (s.setIme v).joypad = s.joypad := rfl
@[simp] theorem State.setIme_cur (v : Ime) : (s.setIme v).cur = s.cur := rfl
@[simp] theorem State.setIme_fault (v : Ime) : (s.setIme v).fault = s.fault := rfl
@[simp] theorem State.setIme_inputs (v : Ime) : (s.setIme v).inputs = s.inputs := rfl

@[simp] theorem State.mapScratch_cpu (g : Scratch → Scratch) : (s.mapScratch g).cpu = s.cpu := rfl
@[simp] theorem State.mapScratch_ime (g : Scratch → Scratch) : (s.mapScratch g).ime = s.ime := rfl
@[simp] theorem State.mapScratch_iflag (g : Scratch → Scratch) : (s.mapScratch g).iflag = s.iflag := rfl
@[simp] theorem State.mapScratch_ie (g : Scratch → Scratch) : (s.mapScratch g).ie = s.ie := rfl
@[simp] theorem State.mapScratch_halted (g : Scratch → Scratch) : (s.mapScratch g).halted = s.halted := rfl
@[simp] theorem State.mapScratch_timer (g : Scratch → Scratch) : (s.mapScratch g).timer = s.timer := rfl
@[simp] theorem State.mapScratch_dma (g : Scratch → Scratch) : (s.mapScratch g).dma = s.dma := rfl
@[simp] theorem State.mapScratch_bootMapped (g : Scratch → Scratch) : (s.mapScratch g).bootMapped = s.bootMapped := rfl
@[simp] theorem State.mapScratch_boot (g : Scratch → Scratch) : (s.mapScratch g).boot = s.boot := rfl
@[simp] theorem State.mapScratch_rom (g : Scratch → Scratch) : (s.mapScratch g).rom = s.rom := rfl
@[simp] theorem State.mapScratch_ram (g : Scratch → Scratch) : (s.mapScratch g).ram = s.ram := rfl
@[simp] theorem State.mapScratch_ppu (g : Scratch → Scratch) : (s.mapScratch g).ppu = s.ppu := rfl
@[simp] theorem State.mapScratch_joypad (g : Scratch → Scratch) : (s.mapScratch g).joypad = s.joypad := rfl
@[simp] theorem State.mapScratch_cur (g : Scratch → Scratch) : (s.mapScratch g).cur = s.cur.map fun q => { q with kind := q.kind.mapScratch g } := rfl
@[simp] theorem State.mapScratch_fault (g : Scratch → Scratch) : (s.mapScratch g).fault = s.fault := rfl
@[simp] theorem State.mapScratch_inputs (g : Scratch → Scratch) : (s.mapScratch g).inputs = s.inputs := rfl

@[simp] theorem State.advance_cpu : (s.advance).cpu = s.cpu := rfl
@[simp] theorem State.advance_ime : (s.advance).ime = s.ime := rfl
@[simp] theorem State.advance_iflag : (s.advance).iflag = s.iflag := rfl
@[simp] theorem State.advance_ie : (s.advance).ie = s.ie := rfl
@[simp] theorem State.advance_halted : (s.advance).halted = s.halted := rfl
@[simp] theorem State.advance_timer : (s.advance).timer = s.timer := rfl
@[simp] theorem State.advance_dma : (s.advance).dma = s.dma := rfl
@[simp] theorem State.advance_bootMapped : (s.advance).bootMapped = s.bootMapped := rfl
@[simp] theorem State.advance_boot : (s.advance).boot = s.boot := rfl
@[simp] theorem State.advance_rom : (s.advance).rom = s.rom := rfl
@[simp] theorem State.advance_ram : (s.advance).ram = s.ram := rfl
@[simp] theorem State.advance_ppu : (s.advance).ppu = s.ppu := rfl
@[simp] theorem State.advance_joypad : (s.advance).joypad = s.joypad := rfl
@[simp] theorem State.advance_cur : (s.advance).cur = s.cur.map fun q => { q with k := q.k + 1 } := rfl
@[simp] theorem State.advance_fault : (s.advance).fault = s.fault := rfl
@[simp] theorem State.advance_inputs : (s.advance).inputs = s.inputs := rfl

@[simp] theorem State.endSeq_cpu : (s.endSeq).cpu = s.cpu := rfl
@[simp] theorem State.endSeq_ime : (s.endSeq).ime = s.ime := rfl
@[simp] theorem State.endSeq_iflag : (s.endSeq).iflag = s.iflag := rfl
@[simp] theorem State.endSeq_ie : (s.endSeq).ie = s.ie := rfl
@[simp] theorem State.endSeq_halted : (s.endSeq).halted = s.halted := rfl
@[simp] theorem State.endSeq_timer : (s.endSeq).timer = s.timer := rfl
@[simp] theorem State.endSeq_dma : (s.endSeq).dma = s.dma := rfl
@[simp] theorem State.endSeq_bootMapped : (s.endSeq).bootMapped = s.bootMapped := rfl
@[simp] theorem State.endSeq_boot : (s.endSeq).boot = s.boot := rfl
@[simp] theorem State.endSeq_rom : (s.endSeq).rom = s.rom := rfl
@[simp] theorem State.endSeq_ram : (s.endSeq).ram = s.ram := rfl
@[simp] theorem State.endSeq_ppu : (s.endSeq).ppu = s.ppu := rfl
@[simp] theorem State.endSeq_joypad : (s.endSeq).joypad = s.joypad := rfl
@[simp] theorem State.endSeq_cur : (s.endSeq).cur = none := rfl
@[simp] theorem State.endSeq_fault : (s.endSeq).fault = s.fault := rfl
@[simp] theorem State.endSeq_inputs : (s.endSeq).inputs = s.inputs := rfl

@[simp] theorem State.raiseFatal_cpu (kind : FatalKind) : (s.raiseFatal kind).cpu = s.cpu := rfl
@[simp] theorem State.raiseFatal_ime (kind : FatalKind) : (s.raiseFatal kind).ime = s.ime := rfl
@[simp] theorem State.raiseFatal_iflag (kind : FatalKind) : (s.raiseFatal kind).iflag = s.iflag := rfl
@[simp] theorem State.raiseFatal_ie (kind : FatalKind) : (s.raiseFatal kind).ie = s.ie := rfl
@[simp] theorem State.raiseFatal_halted (kind : FatalKind) : (s.raiseFatal kind).halted = s.halted := rfl
@[simp] theorem State.raiseFatal_timer (kind : FatalKind) : (s.raiseFatal kind).timer = s.timer := rfl
@[simp] theorem State.raiseFatal_dma (kind : FatalKind) : (s.raiseFatal kind).dma = s.dma := rfl
@[simp] theorem State.raiseFatal_bootMapped (kind : FatalKind) : (s.raiseFatal kind).bootMapped = s.bootMapped := rfl
@[simp] theorem State.raiseFatal_boot (kind : FatalKind) : (s.raiseFatal kind).boot = s.boot := rfl
@[simp] theorem State.raiseFatal_rom (kind : FatalKind) : (s.raiseFatal kind).rom = s.rom := rfl
@[simp] theorem State.raiseFatal_ram (kind : FatalKind) : (s.raiseFatal kind).ram = s.ram := rfl
@[simp] theorem State.raiseFatal_ppu (kind : FatalKind) : (s.raiseFatal kind).ppu = s.ppu := rfl
@[simp] theorem State.raiseFatal_joypad (kind : FatalKind) : (s.raiseFatal kind).joypad = s.joypad := rfl
@[simp] theorem State.raiseFatal_cur (kind : FatalKind) : (s.raiseFatal kind).cur = s.cur := rfl
@[simp] theorem State.raiseFatal_fault (kind : FatalKind) : (s.raiseFatal kind).fault = some kind := rfl
@[simp] theorem State.raiseFatal_inputs (kind : FatalKind) : (s.raiseFatal kind).inputs = s.inputs := rfl

@[simp] theorem State.request_cpu (bits : BitVec 5) : (s.request bits).cpu = s.cpu := rfl
@[simp] theorem State.request_ime (bits : BitVec 5) : (s.request bits).ime = s.ime := rfl
@[simp] theorem State.request_iflag (bits : BitVec 5) : (s.request bits).iflag = s.iflag ||| bits := rfl
@[simp] theorem State.request_ie (bits : BitVec 5) : (s.request bits).ie = s.ie := rfl
@[simp] theorem State.request_halted (bits : BitVec 5) : (s.request bits).halted = s.halted := rfl
@[simp] theorem State.request_timer (bits : BitVec 5) : (s.request bits).timer = s.timer := rfl
@[simp] theorem State.request_dma (bits : BitVec 5) : (s.request bits).dma = s.dma := rfl
@[simp] theorem State.request_bootMapped (bits : BitVec 5) : (s.request bits).bootMapped = s.bootMapped := rfl
@[simp] theorem State.request_boot (bits : BitVec 5) : (s.request bits).boot = s.boot := rfl
@[simp] theorem State.request_rom (bits : BitVec 5) : (s.request bits).rom = s.rom := rfl
@[simp] theorem State.request_ram (bits : BitVec 5) : (s.request bits).ram = s.ram := rfl
@[simp] theorem State.request_ppu (bits : BitVec 5) : (s.request bits).ppu = s.ppu := rfl
@[simp] theorem State.request_joypad (bits : BitVec 5) : (s.request bits).joypad = s.joypad := rfl
@[simp] theorem State.request_cur (bits : BitVec 5) : (s.request bits).cur = s.cur := rfl
@[simp] theorem State.request_fault (bits : BitVec 5) : (s.request bits).fault = s.fault := rfl
@[simp] theorem State.request_inputs (bits : BitVec 5) : (s.request bits).inputs = s.inputs := rfl

/-! The named setters are updates of the register file or of the scratch. -/

theorem State.setR8_eq (r : R8) (v : Byte) : s.setR8 r v = s.setCpu (s.cpu.setR8 r v) := rfl
theorem State.setHl_eq (v : Word) : s.setHl v = s.setCpu (s.cpu.setHl v) := rfl
theorem State.setRp_eq (q : Rp) (v : Word) : s.setRp q v = s.setCpu (s.cpu.setRp q v) := rfl
theorem State.setRp2_eq (q : Rp2) (v : Word) : s.setRp2 q v = s.setCpu (s.cpu.setRp2 q v) := rfl
theorem State.setPc_eq (v : Word) : s.setPc v = s.setCpu { s.cpu with pc := v } := rfl
theorem State.incPc_eq : s.incPc = s.setCpu { s.cpu with pc := s.cpu.pc + 1 } := rfl
theorem State.setSp_eq (v : Word) : s.setSp v = s.setCpu { s.cpu with sp := v } := rfl
theorem State.decSp_eq : s.decSp = s.setCpu { s.cpu with sp := s.cpu.sp - 1 } := rfl
theorem State.incSp_eq : s.incSp = s.setCpu { s.cpu with sp := s.cpu.sp + 1 } := rfl
theorem State.setFlags_eq (z n h c : Bool) : s.setFlags z n h c = s.setCpu (s.cpu.setFlags z n h c) := rfl
theorem State.setFlagsOf_eq (r : Flagged) : s.setFlagsOf r = s.setCpu (s.cpu.setFlags r.z r.n r.h r.c) := rfl
theorem State.setLo_eq (v : Byte) : s.setLo v = s.mapScratch fun x => { x with lo := v } := rfl
theorem State.setHi_eq (v : Byte) : s.setHi v = s.mapScratch fun x => { x with hi := v } := rfl
theorem State.setTmp_eq (v : Byte) : s.setTmp v = s.mapScratch fun x => { x with tmp := v } := rfl
theorem State.setCarryLo_eq (v : Bool) : s.setCarryLo v = s.mapScratch fun x => { x with carryLo := v } := rfl
theorem State.setTaken_eq (v : Bool) : s.setTaken v = s.mapScratch fun x => { x with taken := v } := rfl

/-! Reading a byte sees none of these updates. -/

@[simp] theorem State.region_setCpu (p : Cpu) (a : Word) : (s.setCpu p).region a = s.region a := rfl
@[simp] theorem State.read_setCpu (p : Cpu) (a : Word) : (s.setCpu p).read a = s.read a := rfl
@[simp] theorem State.region_setIme (v : Ime) (a : Word) : (s.setIme v).region a = s.region a := rfl
@[simp] theorem State.read_setIme (v : Ime) (a : Word) : (s.setIme v).read a = s.read a := rfl
@[simp] theorem State.region_mapScratch (g : Scratch → Scratch) (a : Word) : (s.mapScratch g).region a = s.region a := rfl
@[simp] theorem State.read_mapScratch (g : Scratch → Scratch) (a : Word) : (s.mapScratch g).read a = s.read a := rfl
@[simp] theorem State.region_advance (a : Word) : (s.advance).region a = s.region a := rfl
@[simp] theorem State.read_advance (a : Word) : (s.advance).read a = s.read a := rfl
@[simp] theorem State.region_endSeq (a : Word) : (s.endSeq).region a = s.region a := rfl
@[simp] theorem State.read_endSeq (a : Word) : (s.endSeq).read a = s.read a := rfl
@[simp] theorem State.region_raiseFatal (kind : FatalKind) (a : Word) : (s.raiseFatal kind).region a = s.region a := rfl
@[simp] theorem State.read_raiseFatal (kind : FatalKind) (a : Word) : (s.raiseFatal kind).read a = s.read a := rfl

/-- The scratch of an instruction in flight. -/
theorem State.scratch_of_cur {s : State} {x : Scratch} {k : Nat} (h : s.cur = some ⟨.instr x, k⟩) : s.scratch = x := by
  simp [State.scratch, h]

/-! ### The register file -/

variable (p : Cpu)

/-- A register reads back what was written to it, and no other register changes (R30). -/
theorem Cpu.r8_setR8 (r q : R8) (v : Byte) : (p.setR8 r v).r8 q = if q = r then v else p.r8 q := by
  cases r <;> cases q <;> rfl

@[simp] theorem Cpu.setR8_f (r : R8) (v : Byte) : (p.setR8 r v).f = p.f := by cases r <;> rfl
@[simp] theorem Cpu.setR8_sp (r : R8) (v : Byte) : (p.setR8 r v).sp = p.sp := by cases r <;> rfl
@[simp] theorem Cpu.setR8_pc (r : R8) (v : Byte) : (p.setR8 r v).pc = p.pc := by cases r <;> rfl

@[simp] theorem Cpu.setFlags_a (z n h c : Bool) : (p.setFlags z n h c).a = p.a := rfl
@[simp] theorem Cpu.setFlags_b (z n h c : Bool) : (p.setFlags z n h c).b = p.b := rfl
@[simp] theorem Cpu.setFlags_c (z n h c : Bool) : (p.setFlags z n h c).c = p.c := rfl
@[simp] theorem Cpu.setFlags_d (z n h c : Bool) : (p.setFlags z n h c).d = p.d := rfl
@[simp] theorem Cpu.setFlags_e (z n h c : Bool) : (p.setFlags z n h c).e = p.e := rfl
@[simp] theorem Cpu.setFlags_h (z n h c : Bool) : (p.setFlags z n h c).h = p.h := rfl
@[simp] theorem Cpu.setFlags_l (z n h c : Bool) : (p.setFlags z n h c).l = p.l := rfl
@[simp] theorem Cpu.setFlags_sp (z n h c : Bool) : (p.setFlags z n h c).sp = p.sp := rfl
@[simp] theorem Cpu.setFlags_pc (z n h c : Bool) : (p.setFlags z n h c).pc = p.pc := rfl
@[simp] theorem Cpu.setFlags_f (z n h c : Bool) : (p.setFlags z n h c).f = packFlags z n h c := rfl

@[simp] theorem Cpu.setFlags_r8 (z n h c : Bool) (r : R8) : (p.setFlags z n h c).r8 r = p.r8 r := by cases r <;> rfl

/-- The low nibble of packed flags is 0 (R36). -/
theorem packFlags_low (z n h c : Bool) : packFlags z n h c &&& 0x0F#8 = 0 := by
  cases z <;> cases n <;> cases h <;> cases c <;> rfl

/-- Where the four flags lie in the byte (R35). -/
theorem packFlags_bits (z n h c : Bool) :
    (packFlags z n h c)[7] = z ∧ (packFlags z n h c)[6] = n ∧ (packFlags z n h c)[5] = h ∧
      (packFlags z n h c)[4] = c := by
  cases z <;> cases n <;> cases h <;> cases c <;> decide

@[simp] theorem Cpu.setFlags_zf (z n h c : Bool) : (p.setFlags z n h c).zf = z := (packFlags_bits z n h c).1
@[simp] theorem Cpu.setFlags_nf (z n h c : Bool) : (p.setFlags z n h c).nf = n := (packFlags_bits z n h c).2.1
@[simp] theorem Cpu.setFlags_hf (z n h c : Bool) : (p.setFlags z n h c).hf = h := (packFlags_bits z n h c).2.2.1
@[simp] theorem Cpu.setFlags_cf (z n h c : Bool) : (p.setFlags z n h c).cf = c := (packFlags_bits z n h c).2.2.2

/-- A word is its two bytes (R12). -/
theorem cat_hi_lo (v : Word) : cat (hi v) (lo v) = v := by
  apply BitVec.eq_of_getLsbD_eq
  intro i h
  simp only [cat, hi, lo, BitVec.getLsbD_append, BitVec.getLsbD_extractLsb']
  by_cases h8 : i < 8
  · simp [h8]
  · simp [h8, show i - 8 < 8 by omega, show 8 + (i - 8) = i by omega]

@[simp] theorem hi_cat (h l : Byte) : hi (cat h l) = h := by
  apply BitVec.eq_of_getLsbD_eq
  intro i hi8
  simp only [cat, hi, BitVec.getLsbD_append, BitVec.getLsbD_extractLsb', hi8]
  simp [show ¬ 8 + i < 8 by omega]

@[simp] theorem lo_cat (h l : Byte) : lo (cat h l) = l := by
  apply BitVec.eq_of_getLsbD_eq
  intro i hi8
  simp only [cat, lo, BitVec.getLsbD_append, BitVec.getLsbD_extractLsb', hi8]
  simp [hi8]

end Sys2Proof.Machine
end

