-- ==== Sys2Proof/Laws/Bus.lean ====
section
/-! SUPPORT. Everything a bus write can change, field by field, and that it commutes with the updates of the register
file and of the sequence. -/

namespace Sys2Proof.Machine

variable (s : State) (a : Word) (v : Byte)

/-- Everything a bus write can do (R72): one of the devices, the flat RAM, the overlay, IF or IE, and nothing else. -/
theorem State.write_frame :
    s.write a v =
      { s with
        iflag := (s.write a v).iflag
        ie := (s.write a v).ie
        timer := (s.write a v).timer
        dma := (s.write a v).dma
        bootMapped := (s.write a v).bootMapped
        ram := (s.write a v).ram
        ppu := (s.write a v).ppu
        joypad := (s.write a v).joypad } := by
  unfold State.write
  split <;> rfl

@[simp] theorem State.write_cpu : (s.write a v).cpu = s.cpu := by rw [State.write_frame]
@[simp] theorem State.write_ime : (s.write a v).ime = s.ime := by rw [State.write_frame]
@[simp] theorem State.write_halted : (s.write a v).halted = s.halted := by rw [State.write_frame]
@[simp] theorem State.write_boot : (s.write a v).boot = s.boot := by rw [State.write_frame]
@[simp] theorem State.write_rom : (s.write a v).rom = s.rom := by rw [State.write_frame]
@[simp] theorem State.write_cur : (s.write a v).cur = s.cur := by rw [State.write_frame]
@[simp] theorem State.write_fault : (s.write a v).fault = s.fault := by rw [State.write_frame]
@[simp] theorem State.write_inputs : (s.write a v).inputs = s.inputs := by rw [State.write_frame]

@[simp] theorem State.write_setCpu (p : Cpu) : (s.setCpu p).write a v = (s.write a v).setCpu p := by
  unfold State.write
  rw [State.region_setCpu]
  cases s.region a <;> rfl

@[simp] theorem State.write_mapScratch (g : Scratch → Scratch) :
    (s.mapScratch g).write a v = (s.write a v).mapScratch g := by
  unfold State.write
  rw [State.region_mapScratch]
  cases s.region a <;> rfl

/-- Only a write to the overlay's unmap register changes the overlay, and it only clears it (R49, R74). -/
theorem State.write_bootMapped (h : s.bootMapped = false) : (s.write a v).bootMapped = false := by
  unfold State.write
  split <;> first | exact h | rfl

/-- A write to the flat RAM (R77). -/
theorem State.write_flatRam (h : s.region a = .flatRam) : s.write a v = { s with ram := s.ram.write a.toNat v } := by
  simp [State.write, h]

/-- A write to the cartridge ROM or under the boot ROM's overlay does nothing (R74, R75). -/
theorem State.write_romRegion (h : s.region a = .cartRom ∨ s.region a = .bootRom) : s.write a v = s := by
  cases h <;> simp [State.write, *]

end Sys2Proof.Machine
end

