-- ==== Sys2Proof/Laws/Decode.lean ====
section
/-! SUPPORT. The decoder finds every operation kind at the opcode byte the encoder's fields give it. -/

namespace Sys2Proof

/-- The byte of a primary operation kind decodes to the instruction of that kind (R130, R131). -/
theorem decodePrimary_opByte (f : Form) (hp : f.prefixed = false) (hw : f.wellFormed = true) :
    ∃ i, decodePrimary f.opByte = .instr i ∧ i.form = f := by
  cases f with
  | ldRR dst src => cases dst <;> cases src <;> exact ⟨_, rfl, rfl⟩
  | ldRN dst => cases dst <;> exact ⟨_, rfl, rfl⟩
  | ldRM dst => cases dst <;> exact ⟨_, rfl, rfl⟩
  | ldMR src => cases src <;> exact ⟨_, rfl, rfl⟩
  | ldRpNn p => cases p <;> exact ⟨_, rfl, rfl⟩
  | push p => cases p <;> exact ⟨_, rfl, rfl⟩
  | pop p => cases p <;> exact ⟨_, rfl, rfl⟩
  | aluR op src => cases op <;> cases src <;> exact ⟨_, rfl, rfl⟩
  | aluM op => cases op <;> exact ⟨_, rfl, rfl⟩
  | aluN op => cases op <;> exact ⟨_, rfl, rfl⟩
  | incR r => cases r <;> exact ⟨_, rfl, rfl⟩
  | decR r => cases r <;> exact ⟨_, rfl, rfl⟩
  | incRp p => cases p <;> exact ⟨_, rfl, rfl⟩
  | decRp p => cases p <;> exact ⟨_, rfl, rfl⟩
  | addHl p => cases p <;> exact ⟨_, rfl, rfl⟩
  | jpCc cc => cases cc <;> exact ⟨_, rfl, rfl⟩
  | jrCc cc => cases cc <;> exact ⟨_, rfl, rfl⟩
  | callCc cc => cases cc <;> exact ⟨_, rfl, rfl⟩
  | retCc cc => cases cc <;> exact ⟨_, rfl, rfl⟩
  | rst y => fin_cases y <;> exact ⟨_, rfl, rfl⟩
  | rotR op r => cases hp
  | rotM op => cases hp
  | bitR b r => cases hp
  | bitM b => cases hp
  | resR b r => cases hp
  | resM b => cases hp
  | setR b r => cases hp
  | setM b => cases hp
  | illegal op =>
    simp only [Form.wellFormed, illegalBytes, List.contains_iff_mem, List.mem_cons, List.not_mem_nil, or_false] at hw
    rcases hw with rfl | rfl | rfl | rfl | rfl | rfl | rfl | rfl | rfl | rfl | rfl <;> exact ⟨_, rfl, rfl⟩
  | _ => exact ⟨_, rfl, rfl⟩

/-- The second byte of a prefixed operation kind decodes to the instruction of that kind (R132, R133). -/
theorem decodeCb_opByte (f : Form) (hp : f.prefixed = true) : (decodeCb f.opByte).form = f := by
  cases f with
  | rotR op r => cases op <;> cases r <;> rfl
  | rotM op => cases op <;> rfl
  | bitR b r => fin_cases b <;> cases r <;> rfl
  | bitM b => fin_cases b <;> rfl
  | resR b r => fin_cases b <;> cases r <;> rfl
  | resM b => fin_cases b <;> rfl
  | setR b r => fin_cases b <;> cases r <;> rfl
  | setM b => fin_cases b <;> rfl
  | _ => cases hp

/-- An instruction is found at the opcode byte of its operation kind. -/
theorem Instr.decode_opByte (i : Instr) :
    if i.form.prefixed then decodeCb i.form.opByte = i else decodePrimary i.form.opByte = .instr i := by
  cases i <;> rfl

/-- No two instructions are of the same kind. -/
theorem Instr.form_injective {i j : Instr} (h : i.form = j.form) : i = j := by
  have hi := i.decode_opByte
  have hj := j.decode_opByte
  rw [h] at hi
  split at hi
  · rename_i hp
    rw [if_pos hp] at hj
    exact hi.symm.trans hj
  · rename_i hp
    rw [if_neg hp] at hj
    exact Decoded.instr.inj (hi.symm.trans hj)

end Sys2Proof
end

