-- ==== Sys2Proof/Laws/Memory.lean ====
section
/-! SUPPORT. The laws of one memory array: a read after a write, and that a write keeps the canonical form. -/

namespace Sys2Proof.Machine

@[simp] theorem Memory.read_nil (a : Nat) : Memory.read [] a = Config.unlistedByte := rfl

@[simp] theorem Memory.wf_nil (size : Nat) : Memory.wf [] size = true := rfl

/-- An address below every listed one reads as unlisted. -/
theorem Memory.read_below {m : Memory} {lo hi a : Nat} (h : Memory.wfFrom m lo hi = true) (ha : a < lo) :
    m.read a = Config.unlistedByte := by
  induction m generalizing lo with
  | nil => rfl
  | cons kv m ih =>
    obtain ⟨k, v⟩ := kv
    simp only [Memory.wfFrom, Bool.and_eq_true, decide_eq_true_eq] at h
    simp only [Memory.read, show k ≠ a by omega, if_false]
    exact ih h.2 (by omega)

/-- A bound that an array's addresses exceed may be lowered. -/
theorem Memory.wfFrom_mono {m : Memory} {lo lo' hi : Nat} (h : Memory.wfFrom m lo hi = true) (hl : lo' ≤ lo) :
    Memory.wfFrom m lo' hi = true := by
  cases m with
  | nil => rfl
  | cons kv m =>
    obtain ⟨k, v⟩ := kv
    simp only [Memory.wfFrom, Bool.and_eq_true, decide_eq_true_eq] at h ⊢
    exact ⟨⟨⟨by omega, h.1.1.2⟩, h.1.2⟩, h.2⟩

theorem Memory.wfFrom_put {m : Memory} {lo hi a : Nat} (v : Byte) (h : Memory.wfFrom m (a + 1) hi = true)
    (hl : lo ≤ a) (hh : a < hi) : Memory.wfFrom (Memory.put m a v) lo hi = true := by
  unfold Memory.put
  split
  · exact Memory.wfFrom_mono h (by omega)
  · rename_i hv
    simp only [Memory.wfFrom, Bool.and_eq_true, decide_eq_true_eq, bne_iff_ne, ne_eq]
    exact ⟨⟨⟨hl, hh⟩, hv⟩, h⟩

theorem Memory.wfFrom_write {m : Memory} {lo hi a : Nat} (v : Byte) (h : Memory.wfFrom m lo hi = true)
    (hl : lo ≤ a) (hh : a < hi) : Memory.wfFrom (m.write a v) lo hi = true := by
  induction m generalizing lo with
  | nil => exact Memory.wfFrom_put v rfl hl hh
  | cons kv m ih =>
    obtain ⟨k, w⟩ := kv
    have h' := h
    simp only [Memory.wfFrom, Bool.and_eq_true, decide_eq_true_eq] at h
    unfold Memory.write
    split
    · refine Memory.wfFrom_put v ?_ hl hh
      simp only [Memory.wfFrom, Bool.and_eq_true, decide_eq_true_eq]
      exact ⟨⟨⟨by omega, h.1.1.2⟩, h.1.2⟩, h.2⟩
    · split
      · rename_i hk
        exact Memory.wfFrom_put v (hk ▸ h.2) hl hh
      · simp only [Memory.wfFrom, Bool.and_eq_true, decide_eq_true_eq]
        exact ⟨⟨⟨h.1.1.1, h.1.1.2⟩, h.1.2⟩, ih h.2 (by omega)⟩

/-- A write keeps the canonical form. -/
theorem Memory.wf_write {m : Memory} {size a : Nat} (v : Byte) (h : m.wf size = true) (ha : a < size) :
    (m.write a v).wf size = true :=
  Memory.wfFrom_write v h (Nat.zero_le a) ha

theorem Memory.read_put {m : Memory} {hi a b : Nat} (v : Byte) (h : Memory.wfFrom m (a + 1) hi = true) :
    (Memory.put m a v).read b = if a = b then v else m.read b := by
  unfold Memory.put
  split
  · rename_i hv
    split
    · rename_i hab
      rw [hv, Memory.read_below h (by omega)]
    · rfl
  · rfl

theorem Memory.read_write_from {m : Memory} {lo hi a b : Nat} (v : Byte) (h : Memory.wfFrom m lo hi = true) :
    (m.write a v).read b = if a = b then v else m.read b := by
  induction m generalizing lo with
  | nil => exact Memory.read_put (hi := a + 1) v rfl
  | cons kv m ih =>
    obtain ⟨k, w⟩ := kv
    have h' := h
    simp only [Memory.wfFrom, Bool.and_eq_true, decide_eq_true_eq] at h
    unfold Memory.write
    split
    · refine Memory.read_put (hi := hi) v ?_
      simp only [Memory.wfFrom, Bool.and_eq_true, decide_eq_true_eq]
      exact ⟨⟨⟨by omega, h.1.1.2⟩, h.1.2⟩, h.2⟩
    · split
      · rename_i hk
        rw [Memory.read_put (hi := hi) v (hk ▸ h.2), hk]
        simp only [Memory.read]
        split <;> simp_all
      · rename_i hk
        simp only [Memory.read, ih h.2]
        split
        · rename_i hkb
          simp [show a ≠ b by omega]
        · rfl

/-- A read after a write to a canonical array: the byte written at its address, and the old byte everywhere else. -/
theorem Memory.read_write {m : Memory} {size : Nat} (a b : Nat) (v : Byte) (h : m.wf size = true) :
    (m.write a v).read b = if a = b then v else m.read b :=
  Memory.read_write_from v h

/-- Two canonical arrays that list the same bytes are the same data. -/
theorem Memory.ext_from {m n : Memory} {lo hi : Nat} (hm : Memory.wfFrom m lo hi = true)
    (hn : Memory.wfFrom n lo hi = true) (h : ∀ a, m.read a = n.read a) : m = n := by
  induction m generalizing lo n with
  | nil =>
    cases n with
    | nil => rfl
    | cons kv n =>
      obtain ⟨k, v⟩ := kv
      simp only [Memory.wfFrom, Bool.and_eq_true, bne_iff_ne, ne_eq] at hn
      have := h k
      simp only [Memory.read, if_true] at this
      exact absurd this.symm hn.1.2
  | cons kv m ih =>
    obtain ⟨k, v⟩ := kv
    simp only [Memory.wfFrom, Bool.and_eq_true, decide_eq_true_eq, bne_iff_ne, ne_eq] at hm
    cases n with
    | nil =>
      have := h k
      simp only [Memory.read, if_true] at this
      exact absurd this hm.1.2
    | cons kv' n =>
      obtain ⟨k', v'⟩ := kv'
      simp only [Memory.wfFrom, Bool.and_eq_true, decide_eq_true_eq, bne_iff_ne, ne_eq] at hn
      have hk : k = k' := by
        rcases Nat.lt_trichotomy k k' with hlt | heq | hgt
        · have := h k
          simp only [Memory.read, if_true, show k' ≠ k by omega, if_false] at this
          rw [Memory.read_below hn.2 (by omega)] at this
          exact absurd this hm.1.2
        · exact heq
        · have := h k'
          simp only [Memory.read, if_true, show k ≠ k' by omega, if_false] at this
          rw [Memory.read_below hm.2 (by omega)] at this
          exact absurd this.symm hn.1.2
      subst hk
      have hv : v = v' := by simpa [Memory.read] using h k
      subst hv
      have : m = n := by
        refine ih hm.2 hn.2 fun a => ?_
        by_cases ha : k = a
        · subst ha
          rw [Memory.read_below hm.2 (by omega), Memory.read_below hn.2 (by omega)]
        · simpa [Memory.read, ha] using h a
      rw [this]

/-- Equal memories are equal data: canonical arrays with the same bytes are the same list. -/
theorem Memory.ext_of_read {m n : Memory} {size : Nat} (hm : m.wf size = true) (hn : n.wf size = true)
    (h : ∀ a, m.read a = n.read a) : m = n :=
  Memory.ext_from hm hn h

end Sys2Proof.Machine
end

