-- ==== Sys2Proof/Laws/PerInstr.lean ====
section
/-! SUPPORT. The family `Encoding`, one lemma per constructor: the word the opcode table gives an instruction's row, and
the opcode bytes the encoder writes for it from the bit fields (R130, R132), are both what the decoder's grids (R131, R133)
read as that instruction. -/

namespace Sys2Proof.Laws.Encoding

/-- The width in bits and the word of an instruction's row, written out from spec/opcode_table.json. -/
def tableWord : Instr → Nat × Nat
  | .nop => (8, 0x00)
  | .ld_bc_nn => (8, 0x01)
  | .ld_mbc_a => (8, 0x02)
  | .inc_bc => (8, 0x03)
  | .inc_b => (8, 0x04)
  | .dec_b => (8, 0x05)
  | .ld_b_n => (8, 0x06)
  | .rlca => (8, 0x07)
  | .ld_mnn_sp => (8, 0x08)
  | .add_hl_bc => (8, 0x09)
  | .ld_a_mbc => (8, 0x0A)
  | .dec_bc => (8, 0x0B)
  | .inc_c => (8, 0x0C)
  | .dec_c => (8, 0x0D)
  | .ld_c_n => (8, 0x0E)
  | .rrca => (8, 0x0F)
  | .stop => (8, 0x10)
  | .ld_de_nn => (8, 0x11)
  | .ld_mde_a => (8, 0x12)
  | .inc_de => (8, 0x13)
  | .inc_d => (8, 0x14)
  | .dec_d => (8, 0x15)
  | .ld_d_n => (8, 0x16)
  | .rla => (8, 0x17)
  | .jr_e => (8, 0x18)
  | .add_hl_de => (8, 0x19)
  | .ld_a_mde => (8, 0x1A)
  | .dec_de => (8, 0x1B)
  | .inc_e => (8, 0x1C)
  | .dec_e => (8, 0x1D)
  | .ld_e_n => (8, 0x1E)
  | .rra => (8, 0x1F)
  | .jr_nz_e => (8, 0x20)
  | .ld_hl_nn => (8, 0x21)
  | .ld_mhli_a => (8, 0x22)
  | .inc_hl => (8, 0x23)
  | .inc_h => (8, 0x24)
  | .dec_h => (8, 0x25)
  | .ld_h_n => (8, 0x26)
  | .daa => (8, 0x27)
  | .jr_z_e => (8, 0x28)
  | .add_hl_hl => (8, 0x29)
  | .ld_a_mhli => (8, 0x2A)
  | .dec_hl => (8, 0x2B)
  | .inc_l => (8, 0x2C)
  | .dec_l => (8, 0x2D)
  | .ld_l_n => (8, 0x2E)
  | .cpl => (8, 0x2F)
  | .jr_nc_e => (8, 0x30)
  | .ld_sp_nn => (8, 0x31)
  | .ld_mhld_a => (8, 0x32)
  | .inc_sp => (8, 0x33)
  | .inc_mhl => (8, 0x34)
  | .dec_mhl => (8, 0x35)
  | .ld_mhl_n => (8, 0x36)
  | .scf => (8, 0x37)
  | .jr_c_e => (8, 0x38)
  | .add_hl_sp => (8, 0x39)
  | .ld_a_mhld => (8, 0x3A)
  | .dec_sp => (8, 0x3B)
  | .inc_a => (8, 0x3C)
  | .dec_a => (8, 0x3D)
  | .ld_a_n => (8, 0x3E)
  | .ccf => (8, 0x3F)
  | .ld_b_b => (8, 0x40)
  | .ld_b_c => (8, 0x41)
  | .ld_b_d => (8, 0x42)
  | .ld_b_e => (8, 0x43)
  | .ld_b_h => (8, 0x44)
  | .ld_b_l => (8, 0x45)
  | .ld_b_mhl => (8, 0x46)
  | .ld_b_a => (8, 0x47)
  | .ld_c_b => (8, 0x48)
  | .ld_c_c => (8, 0x49)
  | .ld_c_d => (8, 0x4A)
  | .ld_c_e => (8, 0x4B)
  | .ld_c_h => (8, 0x4C)
  | .ld_c_l => (8, 0x4D)
  | .ld_c_mhl => (8, 0x4E)
  | .ld_c_a => (8, 0x4F)
  | .ld_d_b => (8, 0x50)
  | .ld_d_c => (8, 0x51)
  | .ld_d_d => (8, 0x52)
  | .ld_d_e => (8, 0x53)
  | .ld_d_h => (8, 0x54)
  | .ld_d_l => (8, 0x55)
  | .ld_d_mhl => (8, 0x56)
  | .ld_d_a => (8, 0x57)
  | .ld_e_b => (8, 0x58)
  | .ld_e_c => (8, 0x59)
  | .ld_e_d => (8, 0x5A)
  | .ld_e_e => (8, 0x5B)
  | .ld_e_h => (8, 0x5C)
  | .ld_e_l => (8, 0x5D)
  | .ld_e_mhl => (8, 0x5E)
  | .ld_e_a => (8, 0x5F)
  | .ld_h_b => (8, 0x60)
  | .ld_h_c => (8, 0x61)
  | .ld_h_d => (8, 0x62)
  | .ld_h_e => (8, 0x63)
  | .ld_h_h => (8, 0x64)
  | .ld_h_l => (8, 0x65)
  | .ld_h_mhl => (8, 0x66)
  | .ld_h_a => (8, 0x67)
  | .ld_l_b => (8, 0x68)
  | .ld_l_c => (8, 0x69)
  | .ld_l_d => (8, 0x6A)
  | .ld_l_e => (8, 0x6B)
  | .ld_l_h => (8, 0x6C)
  | .ld_l_l => (8, 0x6D)
  | .ld_l_mhl => (8, 0x6E)
  | .ld_l_a => (8, 0x6F)
  | .ld_mhl_b => (8, 0x70)
  | .ld_mhl_c => (8, 0x71)
  | .ld_mhl_d => (8, 0x72)
  | .ld_mhl_e => (8, 0x73)
  | .ld_mhl_h => (8, 0x74)
  | .ld_mhl_l => (8, 0x75)
  | .halt => (8, 0x76)
  | .ld_mhl_a => (8, 0x77)
  | .ld_a_b => (8, 0x78)
  | .ld_a_c => (8, 0x79)
  | .ld_a_d => (8, 0x7A)
  | .ld_a_e => (8, 0x7B)
  | .ld_a_h => (8, 0x7C)
  | .ld_a_l => (8, 0x7D)
  | .ld_a_mhl => (8, 0x7E)
  | .ld_a_a => (8, 0x7F)
  | .add_a_b => (8, 0x80)
  | .add_a_c => (8, 0x81)
  | .add_a_d => (8, 0x82)
  | .add_a_e => (8, 0x83)
  | .add_a_h => (8, 0x84)
  | .add_a_l => (8, 0x85)
  | .add_a_mhl => (8, 0x86)
  | .add_a_a => (8, 0x87)
  | .adc_a_b => (8, 0x88)
  | .adc_a_c => (8, 0x89)
  | .adc_a_d => (8, 0x8A)
  | .adc_a_e => (8, 0x8B)
  | .adc_a_h => (8, 0x8C)
  | .adc_a_l => (8, 0x8D)
  | .adc_a_mhl => (8, 0x8E)
  | .adc_a_a => (8, 0x8F)
  | .sub_a_b => (8, 0x90)
  | .sub_a_c => (8, 0x91)
  | .sub_a_d => (8, 0x92)
  | .sub_a_e => (8, 0x93)
  | .sub_a_h => (8, 0x94)
  | .sub_a_l => (8, 0x95)
  | .sub_a_mhl => (8, 0x96)
  | .sub_a_a => (8, 0x97)
  | .sbc_a_b => (8, 0x98)
  | .sbc_a_c => (8, 0x99)
  | .sbc_a_d => (8, 0x9A)
  | .sbc_a_e => (8, 0x9B)
  | .sbc_a_h => (8, 0x9C)
  | .sbc_a_l => (8, 0x9D)
  | .sbc_a_mhl => (8, 0x9E)
  | .sbc_a_a => (8, 0x9F)
  | .and_a_b => (8, 0xA0)
  | .and_a_c => (8, 0xA1)
  | .and_a_d => (8, 0xA2)
  | .and_a_e => (8, 0xA3)
  | .and_a_h => (8, 0xA4)
  | .and_a_l => (8, 0xA5)
  | .and_a_mhl => (8, 0xA6)
  | .and_a_a => (8, 0xA7)
  | .xor_a_b => (8, 0xA8)
  | .xor_a_c => (8, 0xA9)
  | .xor_a_d => (8, 0xAA)
  | .xor_a_e => (8, 0xAB)
  | .xor_a_h => (8, 0xAC)
  | .xor_a_l => (8, 0xAD)
  | .xor_a_mhl => (8, 0xAE)
  | .xor_a_a => (8, 0xAF)
  | .or_a_b => (8, 0xB0)
  | .or_a_c => (8, 0xB1)
  | .or_a_d => (8, 0xB2)
  | .or_a_e => (8, 0xB3)
  | .or_a_h => (8, 0xB4)
  | .or_a_l => (8, 0xB5)
  | .or_a_mhl => (8, 0xB6)
  | .or_a_a => (8, 0xB7)
  | .cp_a_b => (8, 0xB8)
  | .cp_a_c => (8, 0xB9)
  | .cp_a_d => (8, 0xBA)
  | .cp_a_e => (8, 0xBB)
  | .cp_a_h => (8, 0xBC)
  | .cp_a_l => (8, 0xBD)
  | .cp_a_mhl => (8, 0xBE)
  | .cp_a_a => (8, 0xBF)
  | .ret_nz => (8, 0xC0)
  | .pop_bc => (8, 0xC1)
  | .jp_nz_nn => (8, 0xC2)
  | .jp_nn => (8, 0xC3)
  | .call_nz_nn => (8, 0xC4)
  | .push_bc => (8, 0xC5)
  | .add_a_n => (8, 0xC6)
  | .rst_00h => (8, 0xC7)
  | .ret_z => (8, 0xC8)
  | .ret => (8, 0xC9)
  | .jp_z_nn => (8, 0xCA)
  | .call_z_nn => (8, 0xCC)
  | .call_nn => (8, 0xCD)
  | .adc_a_n => (8, 0xCE)
  | .rst_08h => (8, 0xCF)
  | .ret_nc => (8, 0xD0)
  | .pop_de => (8, 0xD1)
  | .jp_nc_nn => (8, 0xD2)
  | .illegal_d3 => (8, 0xD3)
  | .call_nc_nn => (8, 0xD4)
  | .push_de => (8, 0xD5)
  | .sub_a_n => (8, 0xD6)
  | .rst_10h => (8, 0xD7)
  | .ret_c => (8, 0xD8)
  | .reti => (8, 0xD9)
  | .jp_c_nn => (8, 0xDA)
  | .illegal_db => (8, 0xDB)
  | .call_c_nn => (8, 0xDC)
  | .illegal_dd => (8, 0xDD)
  | .sbc_a_n => (8, 0xDE)
  | .rst_18h => (8, 0xDF)
  | .ldh_mn_a => (8, 0xE0)
  | .pop_hl => (8, 0xE1)
  | .ldh_mc_a => (8, 0xE2)
  | .illegal_e3 => (8, 0xE3)
  | .illegal_e4 => (8, 0xE4)
  | .push_hl => (8, 0xE5)
  | .and_a_n => (8, 0xE6)
  | .rst_20h => (8, 0xE7)
  | .add_sp_e => (8, 0xE8)
  | .jp_hl => (8, 0xE9)
  | .ld_mnn_a => (8, 0xEA)
  | .illegal_eb => (8, 0xEB)
  | .illegal_ec => (8, 0xEC)
  | .illegal_ed => (8, 0xED)
  | .xor_a_n => (8, 0xEE)
  | .rst_28h => (8, 0xEF)
  | .ldh_a_mn => (8, 0xF0)
  | .pop_af => (8, 0xF1)
  | .ldh_a_mc => (8, 0xF2)
  | .di => (8, 0xF3)
  | .illegal_f4 => (8, 0xF4)
  | .push_af => (8, 0xF5)
  | .or_a_n => (8, 0xF6)
  | .rst_30h => (8, 0xF7)
  | .ld_hl_spe => (8, 0xF8)
  | .ld_sp_hl => (8, 0xF9)
  | .ld_a_mnn => (8, 0xFA)
  | .ei => (8, 0xFB)
  | .illegal_fc => (8, 0xFC)
  | .illegal_fd => (8, 0xFD)
  | .cp_a_n => (8, 0xFE)
  | .rst_38h => (8, 0xFF)
  | .rlc_b => (16, 0xCB00)
  | .rlc_c => (16, 0xCB01)
  | .rlc_d => (16, 0xCB02)
  | .rlc_e => (16, 0xCB03)
  | .rlc_h => (16, 0xCB04)
  | .rlc_l => (16, 0xCB05)
  | .rlc_mhl => (16, 0xCB06)
  | .rlc_a => (16, 0xCB07)
  | .rrc_b => (16, 0xCB08)
  | .rrc_c => (16, 0xCB09)
  | .rrc_d => (16, 0xCB0A)
  | .rrc_e => (16, 0xCB0B)
  | .rrc_h => (16, 0xCB0C)
  | .rrc_l => (16, 0xCB0D)
  | .rrc_mhl => (16, 0xCB0E)
  | .rrc_a => (16, 0xCB0F)
  | .rl_b => (16, 0xCB10)
  | .rl_c => (16, 0xCB11)
  | .rl_d => (16, 0xCB12)
  | .rl_e => (16, 0xCB13)
  | .rl_h => (16, 0xCB14)
  | .rl_l => (16, 0xCB15)
  | .rl_mhl => (16, 0xCB16)
  | .rl_a => (16, 0xCB17)
  | .rr_b => (16, 0xCB18)
  | .rr_c => (16, 0xCB19)
  | .rr_d => (16, 0xCB1A)
  | .rr_e => (16, 0xCB1B)
  | .rr_h => (16, 0xCB1C)
  | .rr_l => (16, 0xCB1D)
  | .rr_mhl => (16, 0xCB1E)
  | .rr_a => (16, 0xCB1F)
  | .sla_b => (16, 0xCB20)
  | .sla_c => (16, 0xCB21)
  | .sla_d => (16, 0xCB22)
  | .sla_e => (16, 0xCB23)
  | .sla_h => (16, 0xCB24)
  | .sla_l => (16, 0xCB25)
  | .sla_mhl => (16, 0xCB26)
  | .sla_a => (16, 0xCB27)
  | .sra_b => (16, 0xCB28)
  | .sra_c => (16, 0xCB29)
  | .sra_d => (16, 0xCB2A)
  | .sra_e => (16, 0xCB2B)
  | .sra_h => (16, 0xCB2C)
  | .sra_l => (16, 0xCB2D)
  | .sra_mhl => (16, 0xCB2E)
  | .sra_a => (16, 0xCB2F)
  | .swap_b => (16, 0xCB30)
  | .swap_c => (16, 0xCB31)
  | .swap_d => (16, 0xCB32)
  | .swap_e => (16, 0xCB33)
  | .swap_h => (16, 0xCB34)
  | .swap_l => (16, 0xCB35)
  | .swap_mhl => (16, 0xCB36)
  | .swap_a => (16, 0xCB37)
  | .srl_b => (16, 0xCB38)
  | .srl_c => (16, 0xCB39)
  | .srl_d => (16, 0xCB3A)
  | .srl_e => (16, 0xCB3B)
  | .srl_h => (16, 0xCB3C)
  | .srl_l => (16, 0xCB3D)
  | .srl_mhl => (16, 0xCB3E)
  | .srl_a => (16, 0xCB3F)
  | .bit_0_b => (16, 0xCB40)
  | .bit_0_c => (16, 0xCB41)
  | .bit_0_d => (16, 0xCB42)
  | .bit_0_e => (16, 0xCB43)
  | .bit_0_h => (16, 0xCB44)
  | .bit_0_l => (16, 0xCB45)
  | .bit_0_mhl => (16, 0xCB46)
  | .bit_0_a => (16, 0xCB47)
  | .bit_1_b => (16, 0xCB48)
  | .bit_1_c => (16, 0xCB49)
  | .bit_1_d => (16, 0xCB4A)
  | .bit_1_e => (16, 0xCB4B)
  | .bit_1_h => (16, 0xCB4C)
  | .bit_1_l => (16, 0xCB4D)
  | .bit_1_mhl => (16, 0xCB4E)
  | .bit_1_a => (16, 0xCB4F)
  | .bit_2_b => (16, 0xCB50)
  | .bit_2_c => (16, 0xCB51)
  | .bit_2_d => (16, 0xCB52)
  | .bit_2_e => (16, 0xCB53)
  | .bit_2_h => (16, 0xCB54)
  | .bit_2_l => (16, 0xCB55)
  | .bit_2_mhl => (16, 0xCB56)
  | .bit_2_a => (16, 0xCB57)
  | .bit_3_b => (16, 0xCB58)
  | .bit_3_c => (16, 0xCB59)
  | .bit_3_d => (16, 0xCB5A)
  | .bit_3_e => (16, 0xCB5B)
  | .bit_3_h => (16, 0xCB5C)
  | .bit_3_l => (16, 0xCB5D)
  | .bit_3_mhl => (16, 0xCB5E)
  | .bit_3_a => (16, 0xCB5F)
  | .bit_4_b => (16, 0xCB60)
  | .bit_4_c => (16, 0xCB61)
  | .bit_4_d => (16, 0xCB62)
  | .bit_4_e => (16, 0xCB63)
  | .bit_4_h => (16, 0xCB64)
  | .bit_4_l => (16, 0xCB65)
  | .bit_4_mhl => (16, 0xCB66)
  | .bit_4_a => (16, 0xCB67)
  | .bit_5_b => (16, 0xCB68)
  | .bit_5_c => (16, 0xCB69)
  | .bit_5_d => (16, 0xCB6A)
  | .bit_5_e => (16, 0xCB6B)
  | .bit_5_h => (16, 0xCB6C)
  | .bit_5_l => (16, 0xCB6D)
  | .bit_5_mhl => (16, 0xCB6E)
  | .bit_5_a => (16, 0xCB6F)
  | .bit_6_b => (16, 0xCB70)
  | .bit_6_c => (16, 0xCB71)
  | .bit_6_d => (16, 0xCB72)
  | .bit_6_e => (16, 0xCB73)
  | .bit_6_h => (16, 0xCB74)
  | .bit_6_l => (16, 0xCB75)
  | .bit_6_mhl => (16, 0xCB76)
  | .bit_6_a => (16, 0xCB77)
  | .bit_7_b => (16, 0xCB78)
  | .bit_7_c => (16, 0xCB79)
  | .bit_7_d => (16, 0xCB7A)
  | .bit_7_e => (16, 0xCB7B)
  | .bit_7_h => (16, 0xCB7C)
  | .bit_7_l => (16, 0xCB7D)
  | .bit_7_mhl => (16, 0xCB7E)
  | .bit_7_a => (16, 0xCB7F)
  | .res_0_b => (16, 0xCB80)
  | .res_0_c => (16, 0xCB81)
  | .res_0_d => (16, 0xCB82)
  | .res_0_e => (16, 0xCB83)
  | .res_0_h => (16, 0xCB84)
  | .res_0_l => (16, 0xCB85)
  | .res_0_mhl => (16, 0xCB86)
  | .res_0_a => (16, 0xCB87)
  | .res_1_b => (16, 0xCB88)
  | .res_1_c => (16, 0xCB89)
  | .res_1_d => (16, 0xCB8A)
  | .res_1_e => (16, 0xCB8B)
  | .res_1_h => (16, 0xCB8C)
  | .res_1_l => (16, 0xCB8D)
  | .res_1_mhl => (16, 0xCB8E)
  | .res_1_a => (16, 0xCB8F)
  | .res_2_b => (16, 0xCB90)
  | .res_2_c => (16, 0xCB91)
  | .res_2_d => (16, 0xCB92)
  | .res_2_e => (16, 0xCB93)
  | .res_2_h => (16, 0xCB94)
  | .res_2_l => (16, 0xCB95)
  | .res_2_mhl => (16, 0xCB96)
  | .res_2_a => (16, 0xCB97)
  | .res_3_b => (16, 0xCB98)
  | .res_3_c => (16, 0xCB99)
  | .res_3_d => (16, 0xCB9A)
  | .res_3_e => (16, 0xCB9B)
  | .res_3_h => (16, 0xCB9C)
  | .res_3_l => (16, 0xCB9D)
  | .res_3_mhl => (16, 0xCB9E)
  | .res_3_a => (16, 0xCB9F)
  | .res_4_b => (16, 0xCBA0)
  | .res_4_c => (16, 0xCBA1)
  | .res_4_d => (16, 0xCBA2)
  | .res_4_e => (16, 0xCBA3)
  | .res_4_h => (16, 0xCBA4)
  | .res_4_l => (16, 0xCBA5)
  | .res_4_mhl => (16, 0xCBA6)
  | .res_4_a => (16, 0xCBA7)
  | .res_5_b => (16, 0xCBA8)
  | .res_5_c => (16, 0xCBA9)
  | .res_5_d => (16, 0xCBAA)
  | .res_5_e => (16, 0xCBAB)
  | .res_5_h => (16, 0xCBAC)
  | .res_5_l => (16, 0xCBAD)
  | .res_5_mhl => (16, 0xCBAE)
  | .res_5_a => (16, 0xCBAF)
  | .res_6_b => (16, 0xCBB0)
  | .res_6_c => (16, 0xCBB1)
  | .res_6_d => (16, 0xCBB2)
  | .res_6_e => (16, 0xCBB3)
  | .res_6_h => (16, 0xCBB4)
  | .res_6_l => (16, 0xCBB5)
  | .res_6_mhl => (16, 0xCBB6)
  | .res_6_a => (16, 0xCBB7)
  | .res_7_b => (16, 0xCBB8)
  | .res_7_c => (16, 0xCBB9)
  | .res_7_d => (16, 0xCBBA)
  | .res_7_e => (16, 0xCBBB)
  | .res_7_h => (16, 0xCBBC)
  | .res_7_l => (16, 0xCBBD)
  | .res_7_mhl => (16, 0xCBBE)
  | .res_7_a => (16, 0xCBBF)
  | .set_0_b => (16, 0xCBC0)
  | .set_0_c => (16, 0xCBC1)
  | .set_0_d => (16, 0xCBC2)
  | .set_0_e => (16, 0xCBC3)
  | .set_0_h => (16, 0xCBC4)
  | .set_0_l => (16, 0xCBC5)
  | .set_0_mhl => (16, 0xCBC6)
  | .set_0_a => (16, 0xCBC7)
  | .set_1_b => (16, 0xCBC8)
  | .set_1_c => (16, 0xCBC9)
  | .set_1_d => (16, 0xCBCA)
  | .set_1_e => (16, 0xCBCB)
  | .set_1_h => (16, 0xCBCC)
  | .set_1_l => (16, 0xCBCD)
  | .set_1_mhl => (16, 0xCBCE)
  | .set_1_a => (16, 0xCBCF)
  | .set_2_b => (16, 0xCBD0)
  | .set_2_c => (16, 0xCBD1)
  | .set_2_d => (16, 0xCBD2)
  | .set_2_e => (16, 0xCBD3)
  | .set_2_h => (16, 0xCBD4)
  | .set_2_l => (16, 0xCBD5)
  | .set_2_mhl => (16, 0xCBD6)
  | .set_2_a => (16, 0xCBD7)
  | .set_3_b => (16, 0xCBD8)
  | .set_3_c => (16, 0xCBD9)
  | .set_3_d => (16, 0xCBDA)
  | .set_3_e => (16, 0xCBDB)
  | .set_3_h => (16, 0xCBDC)
  | .set_3_l => (16, 0xCBDD)
  | .set_3_mhl => (16, 0xCBDE)
  | .set_3_a => (16, 0xCBDF)
  | .set_4_b => (16, 0xCBE0)
  | .set_4_c => (16, 0xCBE1)
  | .set_4_d => (16, 0xCBE2)
  | .set_4_e => (16, 0xCBE3)
  | .set_4_h => (16, 0xCBE4)
  | .set_4_l => (16, 0xCBE5)
  | .set_4_mhl => (16, 0xCBE6)
  | .set_4_a => (16, 0xCBE7)
  | .set_5_b => (16, 0xCBE8)
  | .set_5_c => (16, 0xCBE9)
  | .set_5_d => (16, 0xCBEA)
  | .set_5_e => (16, 0xCBEB)
  | .set_5_h => (16, 0xCBEC)
  | .set_5_l => (16, 0xCBED)
  | .set_5_mhl => (16, 0xCBEE)
  | .set_5_a => (16, 0xCBEF)
  | .set_6_b => (16, 0xCBF0)
  | .set_6_c => (16, 0xCBF1)
  | .set_6_d => (16, 0xCBF2)
  | .set_6_e => (16, 0xCBF3)
  | .set_6_h => (16, 0xCBF4)
  | .set_6_l => (16, 0xCBF5)
  | .set_6_mhl => (16, 0xCBF6)
  | .set_6_a => (16, 0xCBF7)
  | .set_7_b => (16, 0xCBF8)
  | .set_7_c => (16, 0xCBF9)
  | .set_7_d => (16, 0xCBFA)
  | .set_7_e => (16, 0xCBFB)
  | .set_7_h => (16, 0xCBFC)
  | .set_7_l => (16, 0xCBFD)
  | .set_7_mhl => (16, 0xCBFE)
  | .set_7_a => (16, 0xCBFF)

/-- The decoder reads the table's word and the encoder's opcode bytes as the instruction, and its operation kind is one
of the table's. -/
def Statement (i : Instr) : Prop :=
  decodeTableWord (tableWord i).1 (tableWord i).2 = some i ∧
    (if i.form.prefixed then decodeCb i.form.opByte = i else decodePrimary i.form.opByte = .instr i) ∧
    i.form.wellFormed = true

theorem nop : Statement .nop := ⟨rfl, rfl, rfl⟩
theorem ld_bc_nn : Statement .ld_bc_nn := ⟨rfl, rfl, rfl⟩
theorem ld_mbc_a : Statement .ld_mbc_a := ⟨rfl, rfl, rfl⟩
theorem inc_bc : Statement .inc_bc := ⟨rfl, rfl, rfl⟩
theorem inc_b : Statement .inc_b := ⟨rfl, rfl, rfl⟩
theorem dec_b : Statement .dec_b := ⟨rfl, rfl, rfl⟩
theorem ld_b_n : Statement .ld_b_n := ⟨rfl, rfl, rfl⟩
theorem rlca : Statement .rlca := ⟨rfl, rfl, rfl⟩
theorem ld_mnn_sp : Statement .ld_mnn_sp := ⟨rfl, rfl, rfl⟩
theorem add_hl_bc : Statement .add_hl_bc := ⟨rfl, rfl, rfl⟩
theorem ld_a_mbc : Statement .ld_a_mbc := ⟨rfl, rfl, rfl⟩
theorem dec_bc : Statement .dec_bc := ⟨rfl, rfl, rfl⟩
theorem inc_c : Statement .inc_c := ⟨rfl, rfl, rfl⟩
theorem dec_c : Statement .dec_c := ⟨rfl, rfl, rfl⟩
theorem ld_c_n : Statement .ld_c_n := ⟨rfl, rfl, rfl⟩
theorem rrca : Statement .rrca := ⟨rfl, rfl, rfl⟩
theorem stop : Statement .stop := ⟨rfl, rfl, rfl⟩
theorem ld_de_nn : Statement .ld_de_nn := ⟨rfl, rfl, rfl⟩
theorem ld_mde_a : Statement .ld_mde_a := ⟨rfl, rfl, rfl⟩
theorem inc_de : Statement .inc_de := ⟨rfl, rfl, rfl⟩
theorem inc_d : Statement .inc_d := ⟨rfl, rfl, rfl⟩
theorem dec_d : Statement .dec_d := ⟨rfl, rfl, rfl⟩
theorem ld_d_n : Statement .ld_d_n := ⟨rfl, rfl, rfl⟩
theorem rla : Statement .rla := ⟨rfl, rfl, rfl⟩
theorem jr_e : Statement .jr_e := ⟨rfl, rfl, rfl⟩
theorem add_hl_de : Statement .add_hl_de := ⟨rfl, rfl, rfl⟩
theorem ld_a_mde : Statement .ld_a_mde := ⟨rfl, rfl, rfl⟩
theorem dec_de : Statement .dec_de := ⟨rfl, rfl, rfl⟩
theorem inc_e : Statement .inc_e := ⟨rfl, rfl, rfl⟩
theorem dec_e : Statement .dec_e := ⟨rfl, rfl, rfl⟩
theorem ld_e_n : Statement .ld_e_n := ⟨rfl, rfl, rfl⟩
theorem rra : Statement .rra := ⟨rfl, rfl, rfl⟩
theorem jr_nz_e : Statement .jr_nz_e := ⟨rfl, rfl, rfl⟩
theorem ld_hl_nn : Statement .ld_hl_nn := ⟨rfl, rfl, rfl⟩
theorem ld_mhli_a : Statement .ld_mhli_a := ⟨rfl, rfl, rfl⟩
theorem inc_hl : Statement .inc_hl := ⟨rfl, rfl, rfl⟩
theorem inc_h : Statement .inc_h := ⟨rfl, rfl, rfl⟩
theorem dec_h : Statement .dec_h := ⟨rfl, rfl, rfl⟩
theorem ld_h_n : Statement .ld_h_n := ⟨rfl, rfl, rfl⟩
theorem daa : Statement .daa := ⟨rfl, rfl, rfl⟩
theorem jr_z_e : Statement .jr_z_e := ⟨rfl, rfl, rfl⟩
theorem add_hl_hl : Statement .add_hl_hl := ⟨rfl, rfl, rfl⟩
theorem ld_a_mhli : Statement .ld_a_mhli := ⟨rfl, rfl, rfl⟩
theorem dec_hl : Statement .dec_hl := ⟨rfl, rfl, rfl⟩
theorem inc_l : Statement .inc_l := ⟨rfl, rfl, rfl⟩
theorem dec_l : Statement .dec_l := ⟨rfl, rfl, rfl⟩
theorem ld_l_n : Statement .ld_l_n := ⟨rfl, rfl, rfl⟩
theorem cpl : Statement .cpl := ⟨rfl, rfl, rfl⟩
theorem jr_nc_e : Statement .jr_nc_e := ⟨rfl, rfl, rfl⟩
theorem ld_sp_nn : Statement .ld_sp_nn := ⟨rfl, rfl, rfl⟩
theorem ld_mhld_a : Statement .ld_mhld_a := ⟨rfl, rfl, rfl⟩
theorem inc_sp : Statement .inc_sp := ⟨rfl, rfl, rfl⟩
theorem inc_mhl : Statement .inc_mhl := ⟨rfl, rfl, rfl⟩
theorem dec_mhl : Statement .dec_mhl := ⟨rfl, rfl, rfl⟩
theorem ld_mhl_n : Statement .ld_mhl_n := ⟨rfl, rfl, rfl⟩
theorem scf : Statement .scf := ⟨rfl, rfl, rfl⟩
theorem jr_c_e : Statement .jr_c_e := ⟨rfl, rfl, rfl⟩
theorem add_hl_sp : Statement .add_hl_sp := ⟨rfl, rfl, rfl⟩
theorem ld_a_mhld : Statement .ld_a_mhld := ⟨rfl, rfl, rfl⟩
theorem dec_sp : Statement .dec_sp := ⟨rfl, rfl, rfl⟩
theorem inc_a : Statement .inc_a := ⟨rfl, rfl, rfl⟩
theorem dec_a : Statement .dec_a := ⟨rfl, rfl, rfl⟩
theorem ld_a_n : Statement .ld_a_n := ⟨rfl, rfl, rfl⟩
theorem ccf : Statement .ccf := ⟨rfl, rfl, rfl⟩
theorem ld_b_b : Statement .ld_b_b := ⟨rfl, rfl, rfl⟩
theorem ld_b_c : Statement .ld_b_c := ⟨rfl, rfl, rfl⟩
theorem ld_b_d : Statement .ld_b_d := ⟨rfl, rfl, rfl⟩
theorem ld_b_e : Statement .ld_b_e := ⟨rfl, rfl, rfl⟩
theorem ld_b_h : Statement .ld_b_h := ⟨rfl, rfl, rfl⟩
theorem ld_b_l : Statement .ld_b_l := ⟨rfl, rfl, rfl⟩
theorem ld_b_mhl : Statement .ld_b_mhl := ⟨rfl, rfl, rfl⟩
theorem ld_b_a : Statement .ld_b_a := ⟨rfl, rfl, rfl⟩
theorem ld_c_b : Statement .ld_c_b := ⟨rfl, rfl, rfl⟩
theorem ld_c_c : Statement .ld_c_c := ⟨rfl, rfl, rfl⟩
theorem ld_c_d : Statement .ld_c_d := ⟨rfl, rfl, rfl⟩
theorem ld_c_e : Statement .ld_c_e := ⟨rfl, rfl, rfl⟩
theorem ld_c_h : Statement .ld_c_h := ⟨rfl, rfl, rfl⟩
theorem ld_c_l : Statement .ld_c_l := ⟨rfl, rfl, rfl⟩
theorem ld_c_mhl : Statement .ld_c_mhl := ⟨rfl, rfl, rfl⟩
theorem ld_c_a : Statement .ld_c_a := ⟨rfl, rfl, rfl⟩
theorem ld_d_b : Statement .ld_d_b := ⟨rfl, rfl, rfl⟩
theorem ld_d_c : Statement .ld_d_c := ⟨rfl, rfl, rfl⟩
theorem ld_d_d : Statement .ld_d_d := ⟨rfl, rfl, rfl⟩
theorem ld_d_e : Statement .ld_d_e := ⟨rfl, rfl, rfl⟩
theorem ld_d_h : Statement .ld_d_h := ⟨rfl, rfl, rfl⟩
theorem ld_d_l : Statement .ld_d_l := ⟨rfl, rfl, rfl⟩
theorem ld_d_mhl : Statement .ld_d_mhl := ⟨rfl, rfl, rfl⟩
theorem ld_d_a : Statement .ld_d_a := ⟨rfl, rfl, rfl⟩
theorem ld_e_b : Statement .ld_e_b := ⟨rfl, rfl, rfl⟩
theorem ld_e_c : Statement .ld_e_c := ⟨rfl, rfl, rfl⟩
theorem ld_e_d : Statement .ld_e_d := ⟨rfl, rfl, rfl⟩
theorem ld_e_e : Statement .ld_e_e := ⟨rfl, rfl, rfl⟩
theorem ld_e_h : Statement .ld_e_h := ⟨rfl, rfl, rfl⟩
theorem ld_e_l : Statement .ld_e_l := ⟨rfl, rfl, rfl⟩
theorem ld_e_mhl : Statement .ld_e_mhl := ⟨rfl, rfl, rfl⟩
theorem ld_e_a : Statement .ld_e_a := ⟨rfl, rfl, rfl⟩
theorem ld_h_b : Statement .ld_h_b := ⟨rfl, rfl, rfl⟩
theorem ld_h_c : Statement .ld_h_c := ⟨rfl, rfl, rfl⟩
theorem ld_h_d : Statement .ld_h_d := ⟨rfl, rfl, rfl⟩
theorem ld_h_e : Statement .ld_h_e := ⟨rfl, rfl, rfl⟩
theorem ld_h_h : Statement .ld_h_h := ⟨rfl, rfl, rfl⟩
theorem ld_h_l : Statement .ld_h_l := ⟨rfl, rfl, rfl⟩
theorem ld_h_mhl : Statement .ld_h_mhl := ⟨rfl, rfl, rfl⟩
theorem ld_h_a : Statement .ld_h_a := ⟨rfl, rfl, rfl⟩
theorem ld_l_b : Statement .ld_l_b := ⟨rfl, rfl, rfl⟩
theorem ld_l_c : Statement .ld_l_c := ⟨rfl, rfl, rfl⟩
theorem ld_l_d : Statement .ld_l_d := ⟨rfl, rfl, rfl⟩
theorem ld_l_e : Statement .ld_l_e := ⟨rfl, rfl, rfl⟩
theorem ld_l_h : Statement .ld_l_h := ⟨rfl, rfl, rfl⟩
theorem ld_l_l : Statement .ld_l_l := ⟨rfl, rfl, rfl⟩
theorem ld_l_mhl : Statement .ld_l_mhl := ⟨rfl, rfl, rfl⟩
theorem ld_l_a : Statement .ld_l_a := ⟨rfl, rfl, rfl⟩
theorem ld_mhl_b : Statement .ld_mhl_b := ⟨rfl, rfl, rfl⟩
theorem ld_mhl_c : Statement .ld_mhl_c := ⟨rfl, rfl, rfl⟩
theorem ld_mhl_d : Statement .ld_mhl_d := ⟨rfl, rfl, rfl⟩
theorem ld_mhl_e : Statement .ld_mhl_e := ⟨rfl, rfl, rfl⟩
theorem ld_mhl_h : Statement .ld_mhl_h := ⟨rfl, rfl, rfl⟩
theorem ld_mhl_l : Statement .ld_mhl_l := ⟨rfl, rfl, rfl⟩
theorem halt : Statement .halt := ⟨rfl, rfl, rfl⟩
theorem ld_mhl_a : Statement .ld_mhl_a := ⟨rfl, rfl, rfl⟩
theorem ld_a_b : Statement .ld_a_b := ⟨rfl, rfl, rfl⟩
theorem ld_a_c : Statement .ld_a_c := ⟨rfl, rfl, rfl⟩
theorem ld_a_d : Statement .ld_a_d := ⟨rfl, rfl, rfl⟩
theorem ld_a_e : Statement .ld_a_e := ⟨rfl, rfl, rfl⟩
theorem ld_a_h : Statement .ld_a_h := ⟨rfl, rfl, rfl⟩
theorem ld_a_l : Statement .ld_a_l := ⟨rfl, rfl, rfl⟩
theorem ld_a_mhl : Statement .ld_a_mhl := ⟨rfl, rfl, rfl⟩
theorem ld_a_a : Statement .ld_a_a := ⟨rfl, rfl, rfl⟩
theorem add_a_b : Statement .add_a_b := ⟨rfl, rfl, rfl⟩
theorem add_a_c : Statement .add_a_c := ⟨rfl, rfl, rfl⟩
theorem add_a_d : Statement .add_a_d := ⟨rfl, rfl, rfl⟩
theorem add_a_e : Statement .add_a_e := ⟨rfl, rfl, rfl⟩
theorem add_a_h : Statement .add_a_h := ⟨rfl, rfl, rfl⟩
theorem add_a_l : Statement .add_a_l := ⟨rfl, rfl, rfl⟩
theorem add_a_mhl : Statement .add_a_mhl := ⟨rfl, rfl, rfl⟩
theorem add_a_a : Statement .add_a_a := ⟨rfl, rfl, rfl⟩
theorem adc_a_b : Statement .adc_a_b := ⟨rfl, rfl, rfl⟩
theorem adc_a_c : Statement .adc_a_c := ⟨rfl, rfl, rfl⟩
theorem adc_a_d : Statement .adc_a_d := ⟨rfl, rfl, rfl⟩
theorem adc_a_e : Statement .adc_a_e := ⟨rfl, rfl, rfl⟩
theorem adc_a_h : Statement .adc_a_h := ⟨rfl, rfl, rfl⟩
theorem adc_a_l : Statement .adc_a_l := ⟨rfl, rfl, rfl⟩
theorem adc_a_mhl : Statement .adc_a_mhl := ⟨rfl, rfl, rfl⟩
theorem adc_a_a : Statement .adc_a_a := ⟨rfl, rfl, rfl⟩
theorem sub_a_b : Statement .sub_a_b := ⟨rfl, rfl, rfl⟩
theorem sub_a_c : Statement .sub_a_c := ⟨rfl, rfl, rfl⟩
theorem sub_a_d : Statement .sub_a_d := ⟨rfl, rfl, rfl⟩
theorem sub_a_e : Statement .sub_a_e := ⟨rfl, rfl, rfl⟩
theorem sub_a_h : Statement .sub_a_h := ⟨rfl, rfl, rfl⟩
theorem sub_a_l : Statement .sub_a_l := ⟨rfl, rfl, rfl⟩
theorem sub_a_mhl : Statement .sub_a_mhl := ⟨rfl, rfl, rfl⟩
theorem sub_a_a : Statement .sub_a_a := ⟨rfl, rfl, rfl⟩
theorem sbc_a_b : Statement .sbc_a_b := ⟨rfl, rfl, rfl⟩
theorem sbc_a_c : Statement .sbc_a_c := ⟨rfl, rfl, rfl⟩
theorem sbc_a_d : Statement .sbc_a_d := ⟨rfl, rfl, rfl⟩
theorem sbc_a_e : Statement .sbc_a_e := ⟨rfl, rfl, rfl⟩
theorem sbc_a_h : Statement .sbc_a_h := ⟨rfl, rfl, rfl⟩
theorem sbc_a_l : Statement .sbc_a_l := ⟨rfl, rfl, rfl⟩
theorem sbc_a_mhl : Statement .sbc_a_mhl := ⟨rfl, rfl, rfl⟩
theorem sbc_a_a : Statement .sbc_a_a := ⟨rfl, rfl, rfl⟩
theorem and_a_b : Statement .and_a_b := ⟨rfl, rfl, rfl⟩
theorem and_a_c : Statement .and_a_c := ⟨rfl, rfl, rfl⟩
theorem and_a_d : Statement .and_a_d := ⟨rfl, rfl, rfl⟩
theorem and_a_e : Statement .and_a_e := ⟨rfl, rfl, rfl⟩
theorem and_a_h : Statement .and_a_h := ⟨rfl, rfl, rfl⟩
theorem and_a_l : Statement .and_a_l := ⟨rfl, rfl, rfl⟩
theorem and_a_mhl : Statement .and_a_mhl := ⟨rfl, rfl, rfl⟩
theorem and_a_a : Statement .and_a_a := ⟨rfl, rfl, rfl⟩
theorem xor_a_b : Statement .xor_a_b := ⟨rfl, rfl, rfl⟩
theorem xor_a_c : Statement .xor_a_c := ⟨rfl, rfl, rfl⟩
theorem xor_a_d : Statement .xor_a_d := ⟨rfl, rfl, rfl⟩
theorem xor_a_e : Statement .xor_a_e := ⟨rfl, rfl, rfl⟩
theorem xor_a_h : Statement .xor_a_h := ⟨rfl, rfl, rfl⟩
theorem xor_a_l : Statement .xor_a_l := ⟨rfl, rfl, rfl⟩
theorem xor_a_mhl : Statement .xor_a_mhl := ⟨rfl, rfl, rfl⟩
theorem xor_a_a : Statement .xor_a_a := ⟨rfl, rfl, rfl⟩
theorem or_a_b : Statement .or_a_b := ⟨rfl, rfl, rfl⟩
theorem or_a_c : Statement .or_a_c := ⟨rfl, rfl, rfl⟩
theorem or_a_d : Statement .or_a_d := ⟨rfl, rfl, rfl⟩
theorem or_a_e : Statement .or_a_e := ⟨rfl, rfl, rfl⟩
theorem or_a_h : Statement .or_a_h := ⟨rfl, rfl, rfl⟩
theorem or_a_l : Statement .or_a_l := ⟨rfl, rfl, rfl⟩
theorem or_a_mhl : Statement .or_a_mhl := ⟨rfl, rfl, rfl⟩
theorem or_a_a : Statement .or_a_a := ⟨rfl, rfl, rfl⟩
theorem cp_a_b : Statement .cp_a_b := ⟨rfl, rfl, rfl⟩
theorem cp_a_c : Statement .cp_a_c := ⟨rfl, rfl, rfl⟩
theorem cp_a_d : Statement .cp_a_d := ⟨rfl, rfl, rfl⟩
theorem cp_a_e : Statement .cp_a_e := ⟨rfl, rfl, rfl⟩
theorem cp_a_h : Statement .cp_a_h := ⟨rfl, rfl, rfl⟩
theorem cp_a_l : Statement .cp_a_l := ⟨rfl, rfl, rfl⟩
theorem cp_a_mhl : Statement .cp_a_mhl := ⟨rfl, rfl, rfl⟩
theorem cp_a_a : Statement .cp_a_a := ⟨rfl, rfl, rfl⟩
theorem ret_nz : Statement .ret_nz := ⟨rfl, rfl, rfl⟩
theorem pop_bc : Statement .pop_bc := ⟨rfl, rfl, rfl⟩
theorem jp_nz_nn : Statement .jp_nz_nn := ⟨rfl, rfl, rfl⟩
theorem jp_nn : Statement .jp_nn := ⟨rfl, rfl, rfl⟩
theorem call_nz_nn : Statement .call_nz_nn := ⟨rfl, rfl, rfl⟩
theorem push_bc : Statement .push_bc := ⟨rfl, rfl, rfl⟩
theorem add_a_n : Statement .add_a_n := ⟨rfl, rfl, rfl⟩
theorem rst_00h : Statement .rst_00h := ⟨rfl, rfl, rfl⟩
theorem ret_z : Statement .ret_z := ⟨rfl, rfl, rfl⟩
theorem ret : Statement .ret := ⟨rfl, rfl, rfl⟩
theorem jp_z_nn : Statement .jp_z_nn := ⟨rfl, rfl, rfl⟩
theorem call_z_nn : Statement .call_z_nn := ⟨rfl, rfl, rfl⟩
theorem call_nn : Statement .call_nn := ⟨rfl, rfl, rfl⟩
theorem adc_a_n : Statement .adc_a_n := ⟨rfl, rfl, rfl⟩
theorem rst_08h : Statement .rst_08h := ⟨rfl, rfl, rfl⟩
theorem ret_nc : Statement .ret_nc := ⟨rfl, rfl, rfl⟩
theorem pop_de : Statement .pop_de := ⟨rfl, rfl, rfl⟩
theorem jp_nc_nn : Statement .jp_nc_nn := ⟨rfl, rfl, rfl⟩
theorem illegal_d3 : Statement .illegal_d3 := ⟨rfl, rfl, rfl⟩
theorem call_nc_nn : Statement .call_nc_nn := ⟨rfl, rfl, rfl⟩
theorem push_de : Statement .push_de := ⟨rfl, rfl, rfl⟩
theorem sub_a_n : Statement .sub_a_n := ⟨rfl, rfl, rfl⟩
theorem rst_10h : Statement .rst_10h := ⟨rfl, rfl, rfl⟩
theorem ret_c : Statement .ret_c := ⟨rfl, rfl, rfl⟩
theorem reti : Statement .reti := ⟨rfl, rfl, rfl⟩
theorem jp_c_nn : Statement .jp_c_nn := ⟨rfl, rfl, rfl⟩
theorem illegal_db : Statement .illegal_db := ⟨rfl, rfl, rfl⟩
theorem call_c_nn : Statement .call_c_nn := ⟨rfl, rfl, rfl⟩
theorem illegal_dd : Statement .illegal_dd := ⟨rfl, rfl, rfl⟩
theorem sbc_a_n : Statement .sbc_a_n := ⟨rfl, rfl, rfl⟩
theorem rst_18h : Statement .rst_18h := ⟨rfl, rfl, rfl⟩
theorem ldh_mn_a : Statement .ldh_mn_a := ⟨rfl, rfl, rfl⟩
theorem pop_hl : Statement .pop_hl := ⟨rfl, rfl, rfl⟩
theorem ldh_mc_a : Statement .ldh_mc_a := ⟨rfl, rfl, rfl⟩
theorem illegal_e3 : Statement .illegal_e3 := ⟨rfl, rfl, rfl⟩
theorem illegal_e4 : Statement .illegal_e4 := ⟨rfl, rfl, rfl⟩
theorem push_hl : Statement .push_hl := ⟨rfl, rfl, rfl⟩
theorem and_a_n : Statement .and_a_n := ⟨rfl, rfl, rfl⟩
theorem rst_20h : Statement .rst_20h := ⟨rfl, rfl, rfl⟩
theorem add_sp_e : Statement .add_sp_e := ⟨rfl, rfl, rfl⟩
theorem jp_hl : Statement .jp_hl := ⟨rfl, rfl, rfl⟩
theorem ld_mnn_a : Statement .ld_mnn_a := ⟨rfl, rfl, rfl⟩
theorem illegal_eb : Statement .illegal_eb := ⟨rfl, rfl, rfl⟩
theorem illegal_ec : Statement .illegal_ec := ⟨rfl, rfl, rfl⟩
theorem illegal_ed : Statement .illegal_ed := ⟨rfl, rfl, rfl⟩
theorem xor_a_n : Statement .xor_a_n := ⟨rfl, rfl, rfl⟩
theorem rst_28h : Statement .rst_28h := ⟨rfl, rfl, rfl⟩
theorem ldh_a_mn : Statement .ldh_a_mn := ⟨rfl, rfl, rfl⟩
theorem pop_af : Statement .pop_af := ⟨rfl, rfl, rfl⟩
theorem ldh_a_mc : Statement .ldh_a_mc := ⟨rfl, rfl, rfl⟩
theorem di : Statement .di := ⟨rfl, rfl, rfl⟩
theorem illegal_f4 : Statement .illegal_f4 := ⟨rfl, rfl, rfl⟩
theorem push_af : Statement .push_af := ⟨rfl, rfl, rfl⟩
theorem or_a_n : Statement .or_a_n := ⟨rfl, rfl, rfl⟩
theorem rst_30h : Statement .rst_30h := ⟨rfl, rfl, rfl⟩
theorem ld_hl_spe : Statement .ld_hl_spe := ⟨rfl, rfl, rfl⟩
theorem ld_sp_hl : Statement .ld_sp_hl := ⟨rfl, rfl, rfl⟩
theorem ld_a_mnn : Statement .ld_a_mnn := ⟨rfl, rfl, rfl⟩
theorem ei : Statement .ei := ⟨rfl, rfl, rfl⟩
theorem illegal_fc : Statement .illegal_fc := ⟨rfl, rfl, rfl⟩
theorem illegal_fd : Statement .illegal_fd := ⟨rfl, rfl, rfl⟩
theorem cp_a_n : Statement .cp_a_n := ⟨rfl, rfl, rfl⟩
theorem rst_38h : Statement .rst_38h := ⟨rfl, rfl, rfl⟩
theorem rlc_b : Statement .rlc_b := ⟨rfl, rfl, rfl⟩
theorem rlc_c : Statement .rlc_c := ⟨rfl, rfl, rfl⟩
theorem rlc_d : Statement .rlc_d := ⟨rfl, rfl, rfl⟩
theorem rlc_e : Statement .rlc_e := ⟨rfl, rfl, rfl⟩
theorem rlc_h : Statement .rlc_h := ⟨rfl, rfl, rfl⟩
theorem rlc_l : Statement .rlc_l := ⟨rfl, rfl, rfl⟩
theorem rlc_mhl : Statement .rlc_mhl := ⟨rfl, rfl, rfl⟩
theorem rlc_a : Statement .rlc_a := ⟨rfl, rfl, rfl⟩
theorem rrc_b : Statement .rrc_b := ⟨rfl, rfl, rfl⟩
theorem rrc_c : Statement .rrc_c := ⟨rfl, rfl, rfl⟩
theorem rrc_d : Statement .rrc_d := ⟨rfl, rfl, rfl⟩
theorem rrc_e : Statement .rrc_e := ⟨rfl, rfl, rfl⟩
theorem rrc_h : Statement .rrc_h := ⟨rfl, rfl, rfl⟩
theorem rrc_l : Statement .rrc_l := ⟨rfl, rfl, rfl⟩
theorem rrc_mhl : Statement .rrc_mhl := ⟨rfl, rfl, rfl⟩
theorem rrc_a : Statement .rrc_a := ⟨rfl, rfl, rfl⟩
theorem rl_b : Statement .rl_b := ⟨rfl, rfl, rfl⟩
theorem rl_c : Statement .rl_c := ⟨rfl, rfl, rfl⟩
theorem rl_d : Statement .rl_d := ⟨rfl, rfl, rfl⟩
theorem rl_e : Statement .rl_e := ⟨rfl, rfl, rfl⟩
theorem rl_h : Statement .rl_h := ⟨rfl, rfl, rfl⟩
theorem rl_l : Statement .rl_l := ⟨rfl, rfl, rfl⟩
theorem rl_mhl : Statement .rl_mhl := ⟨rfl, rfl, rfl⟩
theorem rl_a : Statement .rl_a := ⟨rfl, rfl, rfl⟩
theorem rr_b : Statement .rr_b := ⟨rfl, rfl, rfl⟩
theorem rr_c : Statement .rr_c := ⟨rfl, rfl, rfl⟩
theorem rr_d : Statement .rr_d := ⟨rfl, rfl, rfl⟩
theorem rr_e : Statement .rr_e := ⟨rfl, rfl, rfl⟩
theorem rr_h : Statement .rr_h := ⟨rfl, rfl, rfl⟩
theorem rr_l : Statement .rr_l := ⟨rfl, rfl, rfl⟩
theorem rr_mhl : Statement .rr_mhl := ⟨rfl, rfl, rfl⟩
theorem rr_a : Statement .rr_a := ⟨rfl, rfl, rfl⟩
theorem sla_b : Statement .sla_b := ⟨rfl, rfl, rfl⟩
theorem sla_c : Statement .sla_c := ⟨rfl, rfl, rfl⟩
theorem sla_d : Statement .sla_d := ⟨rfl, rfl, rfl⟩
theorem sla_e : Statement .sla_e := ⟨rfl, rfl, rfl⟩
theorem sla_h : Statement .sla_h := ⟨rfl, rfl, rfl⟩
theorem sla_l : Statement .sla_l := ⟨rfl, rfl, rfl⟩
theorem sla_mhl : Statement .sla_mhl := ⟨rfl, rfl, rfl⟩
theorem sla_a : Statement .sla_a := ⟨rfl, rfl, rfl⟩
theorem sra_b : Statement .sra_b := ⟨rfl, rfl, rfl⟩
theorem sra_c : Statement .sra_c := ⟨rfl, rfl, rfl⟩
theorem sra_d : Statement .sra_d := ⟨rfl, rfl, rfl⟩
theorem sra_e : Statement .sra_e := ⟨rfl, rfl, rfl⟩
theorem sra_h : Statement .sra_h := ⟨rfl, rfl, rfl⟩
theorem sra_l : Statement .sra_l := ⟨rfl, rfl, rfl⟩
theorem sra_mhl : Statement .sra_mhl := ⟨rfl, rfl, rfl⟩
theorem sra_a : Statement .sra_a := ⟨rfl, rfl, rfl⟩
theorem swap_b : Statement .swap_b := ⟨rfl, rfl, rfl⟩
theorem swap_c : Statement .swap_c := ⟨rfl, rfl, rfl⟩
theorem swap_d : Statement .swap_d := ⟨rfl, rfl, rfl⟩
theorem swap_e : Statement .swap_e := ⟨rfl, rfl, rfl⟩
theorem swap_h : Statement .swap_h := ⟨rfl, rfl, rfl⟩
theorem swap_l : Statement .swap_l := ⟨rfl, rfl, rfl⟩
theorem swap_mhl : Statement .swap_mhl := ⟨rfl, rfl, rfl⟩
theorem swap_a : Statement .swap_a := ⟨rfl, rfl, rfl⟩
theorem srl_b : Statement .srl_b := ⟨rfl, rfl, rfl⟩
theorem srl_c : Statement .srl_c := ⟨rfl, rfl, rfl⟩
theorem srl_d : Statement .srl_d := ⟨rfl, rfl, rfl⟩
theorem srl_e : Statement .srl_e := ⟨rfl, rfl, rfl⟩
theorem srl_h : Statement .srl_h := ⟨rfl, rfl, rfl⟩
theorem srl_l : Statement .srl_l := ⟨rfl, rfl, rfl⟩
theorem srl_mhl : Statement .srl_mhl := ⟨rfl, rfl, rfl⟩
theorem srl_a : Statement .srl_a := ⟨rfl, rfl, rfl⟩
theorem bit_0_b : Statement .bit_0_b := ⟨rfl, rfl, rfl⟩
theorem bit_0_c : Statement .bit_0_c := ⟨rfl, rfl, rfl⟩
theorem bit_0_d : Statement .bit_0_d := ⟨rfl, rfl, rfl⟩
theorem bit_0_e : Statement .bit_0_e := ⟨rfl, rfl, rfl⟩
theorem bit_0_h : Statement .bit_0_h := ⟨rfl, rfl, rfl⟩
theorem bit_0_l : Statement .bit_0_l := ⟨rfl, rfl, rfl⟩
theorem bit_0_mhl : Statement .bit_0_mhl := ⟨rfl, rfl, rfl⟩
theorem bit_0_a : Statement .bit_0_a := ⟨rfl, rfl, rfl⟩
theorem bit_1_b : Statement .bit_1_b := ⟨rfl, rfl, rfl⟩
theorem bit_1_c : Statement .bit_1_c := ⟨rfl, rfl, rfl⟩
theorem bit_1_d : Statement .bit_1_d := ⟨rfl, rfl, rfl⟩
theorem bit_1_e : Statement .bit_1_e := ⟨rfl, rfl, rfl⟩
theorem bit_1_h : Statement .bit_1_h := ⟨rfl, rfl, rfl⟩
theorem bit_1_l : Statement .bit_1_l := ⟨rfl, rfl, rfl⟩
theorem bit_1_mhl : Statement .bit_1_mhl := ⟨rfl, rfl, rfl⟩
theorem bit_1_a : Statement .bit_1_a := ⟨rfl, rfl, rfl⟩
theorem bit_2_b : Statement .bit_2_b := ⟨rfl, rfl, rfl⟩
theorem bit_2_c : Statement .bit_2_c := ⟨rfl, rfl, rfl⟩
theorem bit_2_d : Statement .bit_2_d := ⟨rfl, rfl, rfl⟩
theorem bit_2_e : Statement .bit_2_e := ⟨rfl, rfl, rfl⟩
theorem bit_2_h : Statement .bit_2_h := ⟨rfl, rfl, rfl⟩
theorem bit_2_l : Statement .bit_2_l := ⟨rfl, rfl, rfl⟩
theorem bit_2_mhl : Statement .bit_2_mhl := ⟨rfl, rfl, rfl⟩
theorem bit_2_a : Statement .bit_2_a := ⟨rfl, rfl, rfl⟩
theorem bit_3_b : Statement .bit_3_b := ⟨rfl, rfl, rfl⟩
theorem bit_3_c : Statement .bit_3_c := ⟨rfl, rfl, rfl⟩
theorem bit_3_d : Statement .bit_3_d := ⟨rfl, rfl, rfl⟩
theorem bit_3_e : Statement .bit_3_e := ⟨rfl, rfl, rfl⟩
theorem bit_3_h : Statement .bit_3_h := ⟨rfl, rfl, rfl⟩
theorem bit_3_l : Statement .bit_3_l := ⟨rfl, rfl, rfl⟩
theorem bit_3_mhl : Statement .bit_3_mhl := ⟨rfl, rfl, rfl⟩
theorem bit_3_a : Statement .bit_3_a := ⟨rfl, rfl, rfl⟩
theorem bit_4_b : Statement .bit_4_b := ⟨rfl, rfl, rfl⟩
theorem bit_4_c : Statement .bit_4_c := ⟨rfl, rfl, rfl⟩
theorem bit_4_d : Statement .bit_4_d := ⟨rfl, rfl, rfl⟩
theorem bit_4_e : Statement .bit_4_e := ⟨rfl, rfl, rfl⟩
theorem bit_4_h : Statement .bit_4_h := ⟨rfl, rfl, rfl⟩
theorem bit_4_l : Statement .bit_4_l := ⟨rfl, rfl, rfl⟩
theorem bit_4_mhl : Statement .bit_4_mhl := ⟨rfl, rfl, rfl⟩
theorem bit_4_a : Statement .bit_4_a := ⟨rfl, rfl, rfl⟩
theorem bit_5_b : Statement .bit_5_b := ⟨rfl, rfl, rfl⟩
theorem bit_5_c : Statement .bit_5_c := ⟨rfl, rfl, rfl⟩
theorem bit_5_d : Statement .bit_5_d := ⟨rfl, rfl, rfl⟩
theorem bit_5_e : Statement .bit_5_e := ⟨rfl, rfl, rfl⟩
theorem bit_5_h : Statement .bit_5_h := ⟨rfl, rfl, rfl⟩
theorem bit_5_l : Statement .bit_5_l := ⟨rfl, rfl, rfl⟩
theorem bit_5_mhl : Statement .bit_5_mhl := ⟨rfl, rfl, rfl⟩
theorem bit_5_a : Statement .bit_5_a := ⟨rfl, rfl, rfl⟩
theorem bit_6_b : Statement .bit_6_b := ⟨rfl, rfl, rfl⟩
theorem bit_6_c : Statement .bit_6_c := ⟨rfl, rfl, rfl⟩
theorem bit_6_d : Statement .bit_6_d := ⟨rfl, rfl, rfl⟩
theorem bit_6_e : Statement .bit_6_e := ⟨rfl, rfl, rfl⟩
theorem bit_6_h : Statement .bit_6_h := ⟨rfl, rfl, rfl⟩
theorem bit_6_l : Statement .bit_6_l := ⟨rfl, rfl, rfl⟩
theorem bit_6_mhl : Statement .bit_6_mhl := ⟨rfl, rfl, rfl⟩
theorem bit_6_a : Statement .bit_6_a := ⟨rfl, rfl, rfl⟩
theorem bit_7_b : Statement .bit_7_b := ⟨rfl, rfl, rfl⟩
theorem bit_7_c : Statement .bit_7_c := ⟨rfl, rfl, rfl⟩
theorem bit_7_d : Statement .bit_7_d := ⟨rfl, rfl, rfl⟩
theorem bit_7_e : Statement .bit_7_e := ⟨rfl, rfl, rfl⟩
theorem bit_7_h : Statement .bit_7_h := ⟨rfl, rfl, rfl⟩
theorem bit_7_l : Statement .bit_7_l := ⟨rfl, rfl, rfl⟩
theorem bit_7_mhl : Statement .bit_7_mhl := ⟨rfl, rfl, rfl⟩
theorem bit_7_a : Statement .bit_7_a := ⟨rfl, rfl, rfl⟩
theorem res_0_b : Statement .res_0_b := ⟨rfl, rfl, rfl⟩
theorem res_0_c : Statement .res_0_c := ⟨rfl, rfl, rfl⟩
theorem res_0_d : Statement .res_0_d := ⟨rfl, rfl, rfl⟩
theorem res_0_e : Statement .res_0_e := ⟨rfl, rfl, rfl⟩
theorem res_0_h : Statement .res_0_h := ⟨rfl, rfl, rfl⟩
theorem res_0_l : Statement .res_0_l := ⟨rfl, rfl, rfl⟩
theorem res_0_mhl : Statement .res_0_mhl := ⟨rfl, rfl, rfl⟩
theorem res_0_a : Statement .res_0_a := ⟨rfl, rfl, rfl⟩
theorem res_1_b : Statement .res_1_b := ⟨rfl, rfl, rfl⟩
theorem res_1_c : Statement .res_1_c := ⟨rfl, rfl, rfl⟩
theorem res_1_d : Statement .res_1_d := ⟨rfl, rfl, rfl⟩
theorem res_1_e : Statement .res_1_e := ⟨rfl, rfl, rfl⟩
theorem res_1_h : Statement .res_1_h := ⟨rfl, rfl, rfl⟩
theorem res_1_l : Statement .res_1_l := ⟨rfl, rfl, rfl⟩
theorem res_1_mhl : Statement .res_1_mhl := ⟨rfl, rfl, rfl⟩
theorem res_1_a : Statement .res_1_a := ⟨rfl, rfl, rfl⟩
theorem res_2_b : Statement .res_2_b := ⟨rfl, rfl, rfl⟩
theorem res_2_c : Statement .res_2_c := ⟨rfl, rfl, rfl⟩
theorem res_2_d : Statement .res_2_d := ⟨rfl, rfl, rfl⟩
theorem res_2_e : Statement .res_2_e := ⟨rfl, rfl, rfl⟩
theorem res_2_h : Statement .res_2_h := ⟨rfl, rfl, rfl⟩
theorem res_2_l : Statement .res_2_l := ⟨rfl, rfl, rfl⟩
theorem res_2_mhl : Statement .res_2_mhl := ⟨rfl, rfl, rfl⟩
theorem res_2_a : Statement .res_2_a := ⟨rfl, rfl, rfl⟩
theorem res_3_b : Statement .res_3_b := ⟨rfl, rfl, rfl⟩
theorem res_3_c : Statement .res_3_c := ⟨rfl, rfl, rfl⟩
theorem res_3_d : Statement .res_3_d := ⟨rfl, rfl, rfl⟩
theorem res_3_e : Statement .res_3_e := ⟨rfl, rfl, rfl⟩
theorem res_3_h : Statement .res_3_h := ⟨rfl, rfl, rfl⟩
theorem res_3_l : Statement .res_3_l := ⟨rfl, rfl, rfl⟩
theorem res_3_mhl : Statement .res_3_mhl := ⟨rfl, rfl, rfl⟩
theorem res_3_a : Statement .res_3_a := ⟨rfl, rfl, rfl⟩
theorem res_4_b : Statement .res_4_b := ⟨rfl, rfl, rfl⟩
theorem res_4_c : Statement .res_4_c := ⟨rfl, rfl, rfl⟩
theorem res_4_d : Statement .res_4_d := ⟨rfl, rfl, rfl⟩
theorem res_4_e : Statement .res_4_e := ⟨rfl, rfl, rfl⟩
theorem res_4_h : Statement .res_4_h := ⟨rfl, rfl, rfl⟩
theorem res_4_l : Statement .res_4_l := ⟨rfl, rfl, rfl⟩
theorem res_4_mhl : Statement .res_4_mhl := ⟨rfl, rfl, rfl⟩
theorem res_4_a : Statement .res_4_a := ⟨rfl, rfl, rfl⟩
theorem res_5_b : Statement .res_5_b := ⟨rfl, rfl, rfl⟩
theorem res_5_c : Statement .res_5_c := ⟨rfl, rfl, rfl⟩
theorem res_5_d : Statement .res_5_d := ⟨rfl, rfl, rfl⟩
theorem res_5_e : Statement .res_5_e := ⟨rfl, rfl, rfl⟩
theorem res_5_h : Statement .res_5_h := ⟨rfl, rfl, rfl⟩
theorem res_5_l : Statement .res_5_l := ⟨rfl, rfl, rfl⟩
theorem res_5_mhl : Statement .res_5_mhl := ⟨rfl, rfl, rfl⟩
theorem res_5_a : Statement .res_5_a := ⟨rfl, rfl, rfl⟩
theorem res_6_b : Statement .res_6_b := ⟨rfl, rfl, rfl⟩
theorem res_6_c : Statement .res_6_c := ⟨rfl, rfl, rfl⟩
theorem res_6_d : Statement .res_6_d := ⟨rfl, rfl, rfl⟩
theorem res_6_e : Statement .res_6_e := ⟨rfl, rfl, rfl⟩
theorem res_6_h : Statement .res_6_h := ⟨rfl, rfl, rfl⟩
theorem res_6_l : Statement .res_6_l := ⟨rfl, rfl, rfl⟩
theorem res_6_mhl : Statement .res_6_mhl := ⟨rfl, rfl, rfl⟩
theorem res_6_a : Statement .res_6_a := ⟨rfl, rfl, rfl⟩
theorem res_7_b : Statement .res_7_b := ⟨rfl, rfl, rfl⟩
theorem res_7_c : Statement .res_7_c := ⟨rfl, rfl, rfl⟩
theorem res_7_d : Statement .res_7_d := ⟨rfl, rfl, rfl⟩
theorem res_7_e : Statement .res_7_e := ⟨rfl, rfl, rfl⟩
theorem res_7_h : Statement .res_7_h := ⟨rfl, rfl, rfl⟩
theorem res_7_l : Statement .res_7_l := ⟨rfl, rfl, rfl⟩
theorem res_7_mhl : Statement .res_7_mhl := ⟨rfl, rfl, rfl⟩
theorem res_7_a : Statement .res_7_a := ⟨rfl, rfl, rfl⟩
theorem set_0_b : Statement .set_0_b := ⟨rfl, rfl, rfl⟩
theorem set_0_c : Statement .set_0_c := ⟨rfl, rfl, rfl⟩
theorem set_0_d : Statement .set_0_d := ⟨rfl, rfl, rfl⟩
theorem set_0_e : Statement .set_0_e := ⟨rfl, rfl, rfl⟩
theorem set_0_h : Statement .set_0_h := ⟨rfl, rfl, rfl⟩
theorem set_0_l : Statement .set_0_l := ⟨rfl, rfl, rfl⟩
theorem set_0_mhl : Statement .set_0_mhl := ⟨rfl, rfl, rfl⟩
theorem set_0_a : Statement .set_0_a := ⟨rfl, rfl, rfl⟩
theorem set_1_b : Statement .set_1_b := ⟨rfl, rfl, rfl⟩
theorem set_1_c : Statement .set_1_c := ⟨rfl, rfl, rfl⟩
theorem set_1_d : Statement .set_1_d := ⟨rfl, rfl, rfl⟩
theorem set_1_e : Statement .set_1_e := ⟨rfl, rfl, rfl⟩
theorem set_1_h : Statement .set_1_h := ⟨rfl, rfl, rfl⟩
theorem set_1_l : Statement .set_1_l := ⟨rfl, rfl, rfl⟩
theorem set_1_mhl : Statement .set_1_mhl := ⟨rfl, rfl, rfl⟩
theorem set_1_a : Statement .set_1_a := ⟨rfl, rfl, rfl⟩
theorem set_2_b : Statement .set_2_b := ⟨rfl, rfl, rfl⟩
theorem set_2_c : Statement .set_2_c := ⟨rfl, rfl, rfl⟩
theorem set_2_d : Statement .set_2_d := ⟨rfl, rfl, rfl⟩
theorem set_2_e : Statement .set_2_e := ⟨rfl, rfl, rfl⟩
theorem set_2_h : Statement .set_2_h := ⟨rfl, rfl, rfl⟩
theorem set_2_l : Statement .set_2_l := ⟨rfl, rfl, rfl⟩
theorem set_2_mhl : Statement .set_2_mhl := ⟨rfl, rfl, rfl⟩
theorem set_2_a : Statement .set_2_a := ⟨rfl, rfl, rfl⟩
theorem set_3_b : Statement .set_3_b := ⟨rfl, rfl, rfl⟩
theorem set_3_c : Statement .set_3_c := ⟨rfl, rfl, rfl⟩
theorem set_3_d : Statement .set_3_d := ⟨rfl, rfl, rfl⟩
theorem set_3_e : Statement .set_3_e := ⟨rfl, rfl, rfl⟩
theorem set_3_h : Statement .set_3_h := ⟨rfl, rfl, rfl⟩
theorem set_3_l : Statement .set_3_l := ⟨rfl, rfl, rfl⟩
theorem set_3_mhl : Statement .set_3_mhl := ⟨rfl, rfl, rfl⟩
theorem set_3_a : Statement .set_3_a := ⟨rfl, rfl, rfl⟩
theorem set_4_b : Statement .set_4_b := ⟨rfl, rfl, rfl⟩
theorem set_4_c : Statement .set_4_c := ⟨rfl, rfl, rfl⟩
theorem set_4_d : Statement .set_4_d := ⟨rfl, rfl, rfl⟩
theorem set_4_e : Statement .set_4_e := ⟨rfl, rfl, rfl⟩
theorem set_4_h : Statement .set_4_h := ⟨rfl, rfl, rfl⟩
theorem set_4_l : Statement .set_4_l := ⟨rfl, rfl, rfl⟩
theorem set_4_mhl : Statement .set_4_mhl := ⟨rfl, rfl, rfl⟩
theorem set_4_a : Statement .set_4_a := ⟨rfl, rfl, rfl⟩
theorem set_5_b : Statement .set_5_b := ⟨rfl, rfl, rfl⟩
theorem set_5_c : Statement .set_5_c := ⟨rfl, rfl, rfl⟩
theorem set_5_d : Statement .set_5_d := ⟨rfl, rfl, rfl⟩
theorem set_5_e : Statement .set_5_e := ⟨rfl, rfl, rfl⟩
theorem set_5_h : Statement .set_5_h := ⟨rfl, rfl, rfl⟩
theorem set_5_l : Statement .set_5_l := ⟨rfl, rfl, rfl⟩
theorem set_5_mhl : Statement .set_5_mhl := ⟨rfl, rfl, rfl⟩
theorem set_5_a : Statement .set_5_a := ⟨rfl, rfl, rfl⟩
theorem set_6_b : Statement .set_6_b := ⟨rfl, rfl, rfl⟩
theorem set_6_c : Statement .set_6_c := ⟨rfl, rfl, rfl⟩
theorem set_6_d : Statement .set_6_d := ⟨rfl, rfl, rfl⟩
theorem set_6_e : Statement .set_6_e := ⟨rfl, rfl, rfl⟩
theorem set_6_h : Statement .set_6_h := ⟨rfl, rfl, rfl⟩
theorem set_6_l : Statement .set_6_l := ⟨rfl, rfl, rfl⟩
theorem set_6_mhl : Statement .set_6_mhl := ⟨rfl, rfl, rfl⟩
theorem set_6_a : Statement .set_6_a := ⟨rfl, rfl, rfl⟩
theorem set_7_b : Statement .set_7_b := ⟨rfl, rfl, rfl⟩
theorem set_7_c : Statement .set_7_c := ⟨rfl, rfl, rfl⟩
theorem set_7_d : Statement .set_7_d := ⟨rfl, rfl, rfl⟩
theorem set_7_e : Statement .set_7_e := ⟨rfl, rfl, rfl⟩
theorem set_7_h : Statement .set_7_h := ⟨rfl, rfl, rfl⟩
theorem set_7_l : Statement .set_7_l := ⟨rfl, rfl, rfl⟩
theorem set_7_mhl : Statement .set_7_mhl := ⟨rfl, rfl, rfl⟩
theorem set_7_a : Statement .set_7_a := ⟨rfl, rfl, rfl⟩

end Sys2Proof.Laws.Encoding
end

