-- ==== Sys2Proof/Laws/Ticks.lean ====
section
/-! SUPPORT. Everything the four ticks and the host's input can change. -/

namespace Sys2Proof.Machine

variable (s : State)

/-- Everything the four ticks can do (R160): IME, IF, the timer, the DMA and the PPU. -/
theorem State.tick_frame :
    s.tick =
      { s with
        ime := s.ime.tick
        iflag := s.tick.iflag
        timer := s.timer.tick
        dma := s.dmaTick.dma
        ppu := s.dmaTick.ppu.tick } := by
  simp only [State.tick, State.dmaTick, State.dmaCopy]
  split <;> rfl

@[simp] theorem State.tick_cpu : s.tick.cpu = s.cpu := by rw [State.tick_frame]
@[simp] theorem State.tick_halted : s.tick.halted = s.halted := by rw [State.tick_frame]
@[simp] theorem State.tick_boot : s.tick.boot = s.boot := by rw [State.tick_frame]
@[simp] theorem State.tick_rom : s.tick.rom = s.rom := by rw [State.tick_frame]
@[simp] theorem State.tick_ie : s.tick.ie = s.ie := by rw [State.tick_frame]
@[simp] theorem State.tick_bootMapped : s.tick.bootMapped = s.bootMapped := by rw [State.tick_frame]
@[simp] theorem State.tick_ram : s.tick.ram = s.ram := by rw [State.tick_frame]
@[simp] theorem State.tick_joypad : s.tick.joypad = s.joypad := by rw [State.tick_frame]
@[simp] theorem State.tick_cur : s.tick.cur = s.cur := by rw [State.tick_frame]
@[simp] theorem State.tick_fault : s.tick.fault = s.fault := by rw [State.tick_frame]
@[simp] theorem State.tick_inputs : s.tick.inputs = s.inputs := by rw [State.tick_frame]
@[simp] theorem State.tick_ime : s.tick.ime = s.ime.tick := by rw [State.tick_frame]
@[simp] theorem State.tick_timer : s.tick.timer = s.timer.tick := by rw [State.tick_frame]
@[simp] theorem State.tick_dma : s.tick.dma = s.dmaTick.dma := by rw [State.tick_frame]
@[simp] theorem State.tick_ppu : s.tick.ppu = s.dmaTick.ppu.tick := by rw [State.tick_frame]

/-- The requests of one M-cycle's ticks: the PPU's, then the timer's reload (R413, R432, R451). -/
theorem State.tick_iflag :
    s.tick.iflag =
      s.iflag ||| s.dmaTick.ppu.tickIrq ||| (if s.timer.reloadDue then timerBit else 0) := by
  simp only [State.tick, State.dmaTick, State.dmaCopy]
  split <;> rfl

/-- What the host can do at a boundary (R175, R453): the joypad's request, the joypad's state and the PPU's state. -/
theorem State.takeInput_frame :
    s.takeInput =
      { s with
        iflag := s.takeInput.iflag
        ppu := s.takeInput.ppu
        joypad := s.takeInput.joypad
        inputs := s.inputs.tail } := by
  unfold State.takeInput
  cases s with
  | mk cpu ime iflag ie halted timer dma bootMapped boot rom ram ppu joypad cur fault inputs =>
    cases inputs <;> rfl

/-- With no input waiting nothing happens at the boundary. -/
theorem State.takeInput_of_nil (h : s.inputs = []) : s.takeInput = s := by
  simp [State.takeInput, h]

@[simp] theorem State.takeInput_cpu : s.takeInput.cpu = s.cpu := by rw [State.takeInput_frame]
@[simp] theorem State.takeInput_ime : s.takeInput.ime = s.ime := by rw [State.takeInput_frame]
@[simp] theorem State.takeInput_ie : s.takeInput.ie = s.ie := by rw [State.takeInput_frame]
@[simp] theorem State.takeInput_halted : s.takeInput.halted = s.halted := by rw [State.takeInput_frame]
@[simp] theorem State.takeInput_timer : s.takeInput.timer = s.timer := by rw [State.takeInput_frame]
@[simp] theorem State.takeInput_dma : s.takeInput.dma = s.dma := by rw [State.takeInput_frame]
@[simp] theorem State.takeInput_bootMapped : s.takeInput.bootMapped = s.bootMapped := by rw [State.takeInput_frame]
@[simp] theorem State.takeInput_boot : s.takeInput.boot = s.boot := by rw [State.takeInput_frame]
@[simp] theorem State.takeInput_rom : s.takeInput.rom = s.rom := by rw [State.takeInput_frame]
@[simp] theorem State.takeInput_ram : s.takeInput.ram = s.ram := by rw [State.takeInput_frame]
@[simp] theorem State.takeInput_cur : s.takeInput.cur = s.cur := by rw [State.takeInput_frame]
@[simp] theorem State.takeInput_fault : s.takeInput.fault = s.fault := by rw [State.takeInput_frame]
@[simp] theorem State.takeInput_inputs : s.takeInput.inputs = s.inputs.tail := by rw [State.takeInput_frame]

end Sys2Proof.Machine
end

