-- ==== Sys2Proof/Laws/Step.lean ====
section
/-! SUPPORT. The step taken apart, once: what it answers from the answer of the sequence's step, and which state that step
starts from. -/

namespace Sys2Proof.Machine

theorem finish_eq (r : Result) : finish r = TicksAfter r := by
  cases r with
  | next t =>
    simp only [finish, TicksAfter, State.afterStep]
    cases t.fault <;> simp [State.tick]
  | fault r => rfl
  | refused r => rfl

/-- A step of a running machine: the sequence's step, then the ticks (R160). -/
theorem step_of_running {s : State} (h : s.fault = none) : step s = TicksAfter (perform s.ready) := by
  simp [step, mcycle, h, finish_eq]

/-- A step never runs from a faulted state (R440). -/
theorem running_of_step {s t : State} (h : step s = .next t) : s.fault = none := by
  cases hf : s.fault with
  | none => rfl
  | some kind => simp [step, mcycle, hf] at h

/-- Everything a step that answers a next state did: the sequence's step answered one, and the ticks followed it unless it
met a fatal condition. -/
theorem step_cases {s t : State} (h : step s = .next t) :
    s.fault = none ∧ ∃ u, perform s.ready = .next u ∧ ((u.fault = none ∧ t = u.tick) ∨ (u.fault ≠ none ∧ t = u)) := by
  have hf := running_of_step h
  refine ⟨hf, ?_⟩
  rw [step_of_running hf] at h
  cases hp : perform s.ready with
  | next u =>
    refine ⟨u, rfl, ?_⟩
    rw [hp] at h
    simp only [TicksAfter, Host.Outcome.next.injEq] at h
    by_cases hu : u.fault = none
    · rw [if_pos hu] at h
      exact .inl ⟨hu, h.symm⟩
    · rw [if_neg hu] at h
      exact .inr ⟨hu, h.symm⟩
  | fault r => simp [hp, TicksAfter] at h
  | refused r => simp [hp, TicksAfter] at h

/-- Inside a sequence no decision is taken (R171). -/
theorem ready_of_cur {s : State} {q : Seq} (h : s.cur = some q) : s.ready = s.takeInput := by
  unfold State.ready
  rw [State.takeInput_cur, h]

/-- At a boundary the decision chooses the sequence (R161). -/
theorem ready_of_boundary {s : State} (h : s.cur = none) : s.ready = s.takeInput.schedule := by
  unfold State.ready
  rw [State.takeInput_cur, h]

/-- The decision to fetch (R164). -/
theorem schedule_fetch {s : State} (hn : ¬ (s.ime = .enabled ∧ s.pend ≠ 0)) (hh : s.halted = false) :
    s.schedule = { s with cur := some ⟨.instr .fresh, 1⟩ } := by
  unfold State.schedule
  rw [if_neg hn, if_neg (by simp [hh])]

/-- Everything the decision can choose (R161 to R164). -/
theorem schedule_cases (s : State) :
    (s.ime = .enabled ∧ s.pend ≠ 0 ∧ s.schedule = s.dispatch (lowestBit s.pend)) ∨
    (¬ (s.ime = .enabled ∧ s.pend ≠ 0) ∧ s.halted = true ∧ s.pend ≠ 0 ∧
      s.schedule = { s with halted := false, cur := some ⟨.haltResume, 1⟩ }) ∨
    (¬ (s.ime = .enabled ∧ s.pend ≠ 0) ∧ s.halted = true ∧ s.pend = 0 ∧
      s.schedule = { s with cur := some ⟨.haltWait, 1⟩ }) ∨
    (¬ (s.ime = .enabled ∧ s.pend ≠ 0) ∧ s.halted = false ∧
      s.schedule = { s with cur := some ⟨.instr .fresh, 1⟩ }) := by
  by_cases hd : s.ime = .enabled ∧ s.pend ≠ 0
  · exact .inl ⟨hd.1, hd.2, by rw [State.schedule, if_pos hd]⟩
  · rcases Bool.eq_false_or_eq_true s.halted with hh | hh
    · by_cases hp : s.pend = 0
      · exact .inr (.inr (.inl ⟨hd, hh, hp, by rw [State.schedule, if_neg hd, if_pos hh, if_neg (by simp [hp])]⟩))
      · exact .inr (.inl ⟨hd, hh, hp, by rw [State.schedule, if_neg hd, if_pos hh, if_pos hp]⟩)
    · exact .inr (.inr (.inr ⟨hd, hh, schedule_fetch hd hh⟩))

/-- The fetch step at a PC that holds an instruction's opcode (R165). -/
theorem fetchStep_instr {s : State} {i : Instr} (h : decodePrimary (s.read s.cpu.pc) = .instr i) :
    fetchStep s = exec i s.fetched := by
  rw [fetchStep, h]

/-- The fetch step at a PC that holds the prefix (R135, R165). -/
theorem fetchStep_prefix {s : State} (h : decodePrimary (s.read s.cpu.pc) = .cbPrefix) :
    fetchStep s = .next (s.fetched.mapScratch fun x => { x with cb := true }).advance := by
  rw [fetchStep, h]

end Sys2Proof.Machine
end

