-- ==== Sys2Proof/Machine/Record.lean ====
section
/-! DEFINITION. The engine's observable history: the record of each M-cycle, with the step performed, its bus access and
the state after the ticks (40_engine_sequencer.md R176). It is computed from the state; the machine holds none of it. -/

namespace Sys2Proof.Machine

/-- The step table of an operation kind: the one its instructions' meanings perform (`exec_eq_runTable`). -/
def formTable : Form → List Action
  | .nop => nopTable
  | .ldRpNn p => ldRpNn p
  | .ldBcA => ldToA Cpu.bc
  | .incRp p => incRp p
  | .incR r => incR r
  | .decR r => decR r
  | .ldRN dst => ldRN dst
  | .rlca => rotAcc .rlc
  | .ldNnSp => ldNnSp
  | .addHl p => addHl p
  | .ldABc => ldAFrom Cpu.bc
  | .decRp p => decRp p
  | .rrca => rotAcc .rrc
  | .stop => stopTable
  | .ldDeA => ldToA Cpu.de
  | .rla => rotAcc .rl
  | .jrE => jrE
  | .ldADe => ldAFrom Cpu.de
  | .rra => rotAcc .rr
  | .jrCc cc => jrCc cc
  | .ldHliA => ldHlStepA 1
  | .daa => daaTable
  | .ldAHli => ldAHlStep 1
  | .cpl => cplTable
  | .ldHldA => ldHlStepA (-1)
  | .incM => incM
  | .decM => decM
  | .ldMN => ldMN
  | .scf => scfTable
  | .ldAHld => ldAHlStep (-1)
  | .ccf => ccfTable
  | .ldRR dst src => ldRR dst src
  | .ldRM dst => ldRM dst
  | .ldMR src => ldMR src
  | .halt => haltInstrTable
  | .aluR op src => aluR op src
  | .aluM op => aluM op
  | .retCc cc => retCc cc
  | .pop p => popRp2 p
  | .jpCc cc => jpCc cc
  | .jpNn => jpNn
  | .callCc cc => callCc cc
  | .push p => pushRp2 p
  | .aluN op => aluN op
  | .rst y => rstTable y
  | .ret => retTable
  | .callNn => callNn
  | .illegal op => illegalTable op
  | .reti => retiTable
  | .ldhNA => ldhNA
  | .ldhCA => ldToA Cpu.pageC
  | .addSpE => addSpE
  | .jpHl => jpHl
  | .ldNnA => ldNnA
  | .ldhAN => ldhAN
  | .ldhAC => ldAFrom Cpu.pageC
  | .di => diTable
  | .ldHlSpE => ldHlSpE
  | .ldSpHl => ldSpHl
  | .ldANn => ldANn
  | .ei => eiTable
  | .rotR op r => rotR op r
  | .rotM op => rotM op
  | .bitR b r => bitR b r
  | .bitM b => bitM b
  | .resR b r => modBitR r (resBit b)
  | .resM b => modBitM (resBit b)
  | .setR b r => modBitR r (setBit b)
  | .setM b => modBitM (setBit b)

/-- The bus access of a step's work. A fatal condition is met without one of its own (R391 to R394). -/
def Flow.bus : Flow → Option BusAccess
  | .go _ b => b
  | .endNow _ b => b
  | .fatal _ _ => none

/-- The bus access of the step of a table that the sequence in flight is at. -/
def tableBus (table : List Action) (s : State) : Option BusAccess :=
  match s.cur with
  | none => none
  | some q =>
    match stepAt table q.k with
    | none => none
    | some work => (work s).bus

/-- The read of an opcode byte at PC (R165, R166). -/
def State.fetchAccess (s : State) : BusAccess := .read s.cpu.pc (s.read s.cpu.pc)

/-- The bus access of step `cur.k` of `cur`: the fetch in M1 and in M2 after a prefix, whose own work is internal (R17,
R165, R166), and otherwise the one of the sequence's table. -/
def State.bus (s : State) : Option BusAccess :=
  match s.cur with
  | none => none
  | some q =>
    match q.kind with
    | .instr x =>
      if q.k = 1 ∨ (q.k = 2 ∧ x.cb = true) then some s.fetchAccess
      else
        match x.instr with
        | .instr i => tableBus (formTable i.form) s
        | .cbPrefix => none
    | .service v => tableBus (serviceTable v) s
    | .haltWait => tableBus haltTable s
    | .haltResume => tableBus haltTable s

/-- The kind of a sequence, without its scratch (R51, R176). -/
inductive RecordKind where
  | instr
  | service (v : Word)
  | haltWait
  | haltResume
  deriving DecidableEq, Repr

/-- What a record says of a sequence's kind. -/
def SeqKind.record : SeqKind → RecordKind
  | .instr _ => .instr
  | .service v => .service v
  | .haltWait => .haltWait
  | .haltResume => .haltResume

/-- The record of one M-cycle (R176). -/
structure MCycle where
  /-- the kind of the sequence whose step was performed -/
  kind : RecordKind
  /-- the number of the step performed -/
  k : Nat
  /-- the step's bus access, if it made one -/
  bus : Option BusAccess
  /-- the state after the four ticks, or as the fatal condition left it (R174) -/
  after : State
  deriving DecidableEq, Repr

/-- The record of the M-cycle that runs from a state, if one runs (R176). -/
def State.record (s : State) : Option MCycle :=
  match s.ready.cur, step s with
  | some q, .next t => some { kind := q.kind.record, k := q.k, bus := s.ready.bus, after := t }
  | _, _ => none

/-- The records of the next `n` M-cycles, fewer if the machine is stuck before (R176, R440). -/
def history : Nat → State → List MCycle
  | 0, _ => []
  | n + 1, s =>
    match s.record with
    | none => []
    | some r => r :: history n r.after

end Sys2Proof.Machine
end

