-- ==== Sys2Proof/Laws/Table.lean ====
section
/-! SUPPORT. What performing a step of a table does, once for all instructions: the step of the table, and then its end.
Every meaning is the table of its operation kind. -/

namespace Sys2Proof.Machine

@[simp] theorem State.atPc_eq (s : State) : s.atPc = s.cpu.pc := rfl
@[simp] theorem State.atHl_eq (s : State) : s.atHl = s.cpu.hl := rfl
@[simp] theorem State.atSp_eq (s : State) : s.atSp = s.cpu.sp := rfl

/-- Every instruction performs the table of its operation kind. -/
theorem exec_eq_runTable (i : Instr) (s : State) : exec i s = runTable (formTable i.form) s := by
  cases i <;> rfl

/-- A step the table has: its work, then its end. -/
theorem runTable_of_stepAt {table : List Action} {s : State} {q : Seq} {work : Action} (hq : s.cur = some q)
    (hw : stepAt table q.k = some work) : runTable table s = (work s).result q.k table.length := by
  simp [runTable, hq, hw]

/-- Everything performing a step can answer: the fault of a step that does not exist, or the end of a step of the
table. -/
theorem runTable_cases (table : List Action) (s : State) :
    runTable table s = .fault .noSuchStep ∨
      ∃ q work, s.cur = some q ∧ stepAt table q.k = some work ∧
        runTable table s = (work s).result q.k table.length := by
  cases hq : s.cur with
  | none => exact .inl (by simp [runTable, hq])
  | some q =>
    cases hw : stepAt table q.k with
    | none => exact .inl (by simp [runTable, hq, hw])
    | some work => exact .inr ⟨q, work, rfl, hw, runTable_of_stepAt hq hw⟩

/-- A step of a table is one of its members. -/
theorem mem_of_stepAt {table : List Action} {k : Nat} {work : Action} (h : stepAt table k = some work) :
    work ∈ table := by
  cases k with
  | zero => simp [stepAt] at h
  | succ k => exact List.mem_of_getElem? h

/-- A property of states that ending a step and every step of a table keep is kept by performing the table. -/
theorem runTable_keeps {P : State → Prop} {table : List Action} {s t : State}
    (hadv : ∀ u, P u → P u.advance) (hend : ∀ u, P u → P u.endSeq) (hfat : ∀ u kind, P u → P (u.raiseFatal kind))
    (htab : ∀ work ∈ table, ∀ u, P u → match work u with
      | .go v _ => P v
      | .endNow v _ => P v
      | .fatal _ v => P v)
    (hs : P s) (h : runTable table s = .next t) : P t := by
  obtain hf | ⟨q, work, -, hw, hr⟩ := runTable_cases table s
  · simp [hf] at h
  · have hp := htab work (mem_of_stepAt hw) s hs
    rw [hr] at h
    cases hv : work s with
    | go v b =>
      simp only [hv, Flow.result, Host.Outcome.next.injEq] at h hp
      subst h
      split
      · exact hadv _ hp
      · exact hend _ hp
    | endNow v b =>
      simp only [hv, Flow.result, Host.Outcome.next.injEq] at h hp
      exact h ▸ hend _ hp
    | fatal kind v =>
      simp only [hv, Flow.result, Host.Outcome.next.injEq] at h hp
      exact h ▸ hfat _ _ hp

/-- Performing a table never answers a refusal. -/
theorem runTable_ne_refused (table : List Action) (s : State) (r : Refusal) : runTable table s ≠ .refused r := by
  obtain h | ⟨q, work, -, -, h⟩ := runTable_cases table s
  · simp [h]
  · rw [h]
    cases work s <;> simp [Flow.result]

end Sys2Proof.Machine
end

