-- ==== Sys2Proof/Laws/Shape.lean ====
section
/-! SUPPORT. Everything a step can do to the parts of the state outside the CPU: the bus access its record names (R17, R71,
R176), and then the ticks. Invariants of memory and of the devices follow from this without looking at an instruction. -/

namespace Sys2Proof.Machine

/-- The state after a bus access: a read changes nothing (R82). -/
def State.afterBus (s : State) : Option BusAccess → State
  | some (.write a v) => s.write a v
  | some (.read _ _) => s
  | none => s

/-- What is not the CPU's own is the same in both states. -/
def SameOutside (w u : State) : Prop :=
  u = { w with cpu := u.cpu, ime := u.ime, halted := u.halted, cur := u.cur }

/-- The state a step's work leaves. -/
def Flow.state : Flow → State
  | .go s _ => s
  | .endNow s _ => s
  | .fatal _ s => s

/-- A fatal condition leaves the state it is met in. -/
def FatalInPlace (work : Action) : Prop := ∀ s kind u, work s = .fatal kind u → u = s

/-- A read that a step reports answered what the bus holds there. -/
def ReadsTrue (work : Action) : Prop := ∀ s a v, (work s).bus = some (.read a v) → s.read a = v

/-- A step's work does to what lies outside the CPU what the bus access it reports does, and nothing else; a fatal
condition comes before any effect. -/
structure Shaped (work : Action) : Prop where
  outside : ∀ s, SameOutside (s.afterBus (work s).bus) (work s).state
  fatal : FatalInPlace work := by intro s kind u h; cases h
  reads : ReadsTrue work := by intro s a v h; first | (cases h; rfl) | cases h

theorem shaped_decideRead (cc : Cond) {g : State → Byte → State} (hg : ∀ s v, SameOutside s (g s v)) :
    Shaped (decideRead cc g) where
  outside s := by
    simp only [decideRead, decideCond]
    have h : SameOutside s (g s.incPc (s.read s.cpu.pc)) := hg s.incPc (s.read s.cpu.pc)
    generalize g s.incPc (s.read s.cpu.pc) = u at h
    unfold SameOutside at h
    split <;>
    · rw [h]
      exact rfl
  fatal s kind u h := by
    simp only [decideRead, decideCond] at h
    split at h <;> cases h
  reads s a v h := by
    simp only [decideRead, decideCond] at h
    split at h <;>
    · cases h
      rfl

theorem shaped_idle : Shaped idle := { outside := fun _ => rfl }

theorem shaped_readLo : Shaped readLo := { outside := fun _ => rfl }

theorem shaped_readHi : Shaped readHi := { outside := fun _ => rfl }

theorem shaped_readTmp : Shaped readTmp := { outside := fun _ => rfl }

theorem shaped_readHlTmp : Shaped readHlTmp := { outside := fun _ => rfl }

theorem shaped_pushA : Shaped pushA := { outside := fun _ => rfl }

theorem shaped_pushB (v : State → Word) : Shaped (pushB v) := { outside := fun _ => rfl }

theorem shaped_popA : Shaped popA := { outside := fun _ => rfl }

theorem shaped_popB : Shaped popB := { outside := fun _ => rfl }

theorem shaped_decideStep (cc : Cond) : Shaped (decideStep cc) where
  outside s := by
    simp only [decideStep, decideCond]
    split <;> rfl
  fatal s kind u h := by
    simp only [decideStep, decideCond] at h
    split at h <;> cases h
  reads s a v h := by
    simp only [decideStep, decideCond] at h
    split at h <;> cases h

/-- HALT's step: the flag, or the fatal condition. -/
theorem shaped_halt :
    Shaped fun s => if s.haltBug then .fatal .haltBugNotModelled s else .go { s with halted := true } where
  outside s := by
    split <;> rfl
  fatal s kind u h := by
    dsimp only at h
    split at h <;> cases h
    rfl
  reads s a v h := by
    dsimp only at h
    split at h <;> cases h

/-- EI's step. -/
theorem shaped_ei : Shaped (act fun s => if s.ime = .disabled then s.setIme .scheduledInitial else s) where
  outside s := by
    simp only [act, Flow.state]
    split <;> rfl

/-- A step that only raises a fatal condition. -/
theorem shaped_fatal (kind : FatalKind) : Shaped fun s => .fatal kind s where
  outside _ := rfl
  fatal s k u h := by
    cases h
    rfl

/-- A step of the service sequence that pushes a byte (R422). -/
theorem shaped_servicePush (v : State → Byte) : Shaped fun s => writes State.atSp v (g := fun _ t => t) s.decSp where
  outside s := by
    simp only [writes, Flow.bus, Flow.state, State.afterBus, State.atSp, State.decSp, State.setSp, State.write_setCpu]
    rfl

/-- A property of every step of a table from its steps. -/
theorem forall_mem_singleton {P : Action → Prop} {a : Action} (h : P a) : ∀ w ∈ [a], P w := by
  simpa using h

theorem forall_mem_cons {P : Action → Prop} {a : Action} {l : List Action} (h : P a) (hl : ∀ w ∈ l, P w) :
    ∀ w ∈ a :: l, P w := by
  simpa using ⟨h, hl⟩

/-- Every step of every instruction. -/
theorem formTable_shaped (f : Form) : ∀ work ∈ formTable f, Shaped work := by
  cases f with
  | ldRR dst src => exact forall_mem_singleton { outside := fun s => rfl }
  | ldRN dst => exact forall_mem_cons shaped_idle (forall_mem_singleton { outside := fun s => rfl })
  | ldRM dst => exact forall_mem_cons shaped_idle (forall_mem_singleton { outside := fun s => rfl })
  | ldMR src => exact forall_mem_cons shaped_idle (forall_mem_singleton { outside := fun s => rfl })
  | ldMN =>
    exact forall_mem_cons shaped_idle (forall_mem_cons shaped_readTmp (forall_mem_singleton { outside := fun s => rfl }))
  | ldABc => exact forall_mem_cons shaped_idle (forall_mem_singleton { outside := fun s => rfl })
  | ldADe => exact forall_mem_cons shaped_idle (forall_mem_singleton { outside := fun s => rfl })
  | ldBcA => exact forall_mem_cons shaped_idle (forall_mem_singleton { outside := fun s => rfl })
  | ldDeA => exact forall_mem_cons shaped_idle (forall_mem_singleton { outside := fun s => rfl })
  | ldANn =>
    exact forall_mem_cons shaped_idle (forall_mem_cons shaped_readLo (forall_mem_cons shaped_readHi (forall_mem_singleton { outside := fun s => rfl })))
  | ldNnA =>
    exact forall_mem_cons shaped_idle (forall_mem_cons shaped_readLo (forall_mem_cons shaped_readHi (forall_mem_singleton { outside := fun s => rfl })))
  | ldhAC => exact forall_mem_cons shaped_idle (forall_mem_singleton { outside := fun s => rfl })
  | ldhCA => exact forall_mem_cons shaped_idle (forall_mem_singleton { outside := fun s => rfl })
  | ldhAN =>
    exact forall_mem_cons shaped_idle (forall_mem_cons shaped_readTmp (forall_mem_singleton { outside := fun s => rfl }))
  | ldhNA =>
    exact forall_mem_cons shaped_idle (forall_mem_cons shaped_readTmp (forall_mem_singleton { outside := fun s => rfl }))
  | ldAHld => exact forall_mem_cons shaped_idle (forall_mem_singleton { outside := fun s => rfl })
  | ldHldA => exact forall_mem_cons shaped_idle (forall_mem_singleton { outside := fun s => rfl })
  | ldAHli => exact forall_mem_cons shaped_idle (forall_mem_singleton { outside := fun s => rfl })
  | ldHliA => exact forall_mem_cons shaped_idle (forall_mem_singleton { outside := fun s => rfl })
  | ldRpNn p =>
    exact forall_mem_cons shaped_idle (forall_mem_cons shaped_readLo (forall_mem_singleton { outside := fun s => rfl }))
  | ldSpHl => exact forall_mem_cons shaped_idle (forall_mem_singleton { outside := fun s => rfl })
  | push p =>
    exact forall_mem_cons shaped_idle (forall_mem_cons shaped_pushA (forall_mem_cons (shaped_pushB _) (forall_mem_singleton { outside := fun s => rfl })))
  | pop p =>
    exact forall_mem_cons shaped_idle (forall_mem_cons shaped_popA (forall_mem_singleton { outside := fun s => rfl }))
  | ldHlSpE =>
    exact forall_mem_cons shaped_idle (forall_mem_cons shaped_readTmp (forall_mem_singleton { outside := fun s => rfl }))
  | ldNnSp =>
    exact forall_mem_cons shaped_idle (forall_mem_cons shaped_readLo (forall_mem_cons shaped_readHi (forall_mem_cons { outside := fun s => rfl } (forall_mem_singleton { outside := fun s => rfl }))))
  | aluR op src => exact forall_mem_singleton { outside := fun s => rfl }
  | aluM op => exact forall_mem_cons shaped_idle (forall_mem_singleton { outside := fun s => rfl })
  | aluN op => exact forall_mem_cons shaped_idle (forall_mem_singleton { outside := fun s => rfl })
  | incR r => exact forall_mem_singleton { outside := fun s => rfl }
  | incM =>
    exact forall_mem_cons shaped_idle (forall_mem_cons shaped_readHlTmp (forall_mem_singleton { outside := fun s => rfl }))
  | decR r => exact forall_mem_singleton { outside := fun s => rfl }
  | decM =>
    exact forall_mem_cons shaped_idle (forall_mem_cons shaped_readHlTmp (forall_mem_singleton { outside := fun s => rfl }))
  | daa => exact forall_mem_singleton { outside := fun s => rfl }
  | cpl => exact forall_mem_singleton { outside := fun s => rfl }
  | scf => exact forall_mem_singleton { outside := fun s => rfl }
  | ccf => exact forall_mem_singleton { outside := fun s => rfl }
  | incRp p => exact forall_mem_cons shaped_idle (forall_mem_singleton { outside := fun s => rfl })
  | decRp p => exact forall_mem_cons shaped_idle (forall_mem_singleton { outside := fun s => rfl })
  | addHl p =>
    exact forall_mem_cons { outside := fun s => rfl } (forall_mem_singleton { outside := fun s => rfl })
  | addSpE =>
    exact forall_mem_cons shaped_idle (forall_mem_cons shaped_readTmp (forall_mem_cons shaped_idle (forall_mem_singleton { outside := fun s => rfl })))
  | rlca => exact forall_mem_singleton { outside := fun s => rfl }
  | rrca => exact forall_mem_singleton { outside := fun s => rfl }
  | rla => exact forall_mem_singleton { outside := fun s => rfl }
  | rra => exact forall_mem_singleton { outside := fun s => rfl }
  | rotR op r => exact forall_mem_cons shaped_idle (forall_mem_singleton { outside := fun s => rfl })
  | rotM op =>
    exact forall_mem_cons shaped_idle (forall_mem_cons shaped_idle (forall_mem_cons shaped_readHlTmp (forall_mem_singleton { outside := fun s => rfl })))
  | bitR b r => exact forall_mem_cons shaped_idle (forall_mem_singleton { outside := fun s => rfl })
  | bitM b =>
    exact forall_mem_cons shaped_idle (forall_mem_cons shaped_idle (forall_mem_singleton { outside := fun s => rfl }))
  | resR b r => exact forall_mem_cons shaped_idle (forall_mem_singleton { outside := fun s => rfl })
  | resM b =>
    exact forall_mem_cons shaped_idle (forall_mem_cons shaped_idle (forall_mem_cons shaped_readHlTmp (forall_mem_singleton { outside := fun s => rfl })))
  | setR b r => exact forall_mem_cons shaped_idle (forall_mem_singleton { outside := fun s => rfl })
  | setM b =>
    exact forall_mem_cons shaped_idle (forall_mem_cons shaped_idle (forall_mem_cons shaped_readHlTmp (forall_mem_singleton { outside := fun s => rfl })))
  | jpNn =>
    exact forall_mem_cons shaped_idle (forall_mem_cons shaped_readLo (forall_mem_cons shaped_readHi (forall_mem_singleton { outside := fun s => rfl })))
  | jpCc cc =>
    exact forall_mem_cons shaped_idle (forall_mem_cons shaped_readLo (forall_mem_cons (shaped_decideRead _ fun s v => rfl) (forall_mem_singleton { outside := fun s => rfl })))
  | jpHl => exact forall_mem_singleton { outside := fun s => rfl }
  | jrE =>
    exact forall_mem_cons shaped_idle (forall_mem_cons shaped_readTmp (forall_mem_singleton { outside := fun s => rfl }))
  | jrCc cc =>
    exact forall_mem_cons shaped_idle (forall_mem_cons (shaped_decideRead _ fun s v => rfl) (forall_mem_singleton { outside := fun s => rfl }))
  | callNn =>
    exact forall_mem_cons shaped_idle (forall_mem_cons shaped_readLo (forall_mem_cons shaped_readHi (forall_mem_cons shaped_pushA (forall_mem_cons (shaped_pushB _) (forall_mem_singleton { outside := fun s => rfl })))))
  | callCc cc =>
    exact forall_mem_cons shaped_idle (forall_mem_cons shaped_readLo (forall_mem_cons (shaped_decideRead _ fun s v => rfl) (forall_mem_cons shaped_pushA (forall_mem_cons (shaped_pushB _) (forall_mem_singleton { outside := fun s => rfl })))))
  | ret =>
    exact forall_mem_cons shaped_idle (forall_mem_cons shaped_popA (forall_mem_cons shaped_popB (forall_mem_singleton { outside := fun s => rfl })))
  | retCc cc =>
    exact forall_mem_cons shaped_idle (forall_mem_cons (shaped_decideStep _) (forall_mem_cons shaped_popA (forall_mem_cons shaped_popB (forall_mem_singleton { outside := fun s => rfl }))))
  | reti =>
    exact forall_mem_cons { outside := fun s => rfl } (forall_mem_cons shaped_popA (forall_mem_cons shaped_popB (forall_mem_singleton { outside := fun s => rfl })))
  | rst y =>
    exact forall_mem_cons shaped_idle (forall_mem_cons shaped_pushA (forall_mem_cons (shaped_pushB _) (forall_mem_singleton { outside := fun s => rfl })))
  | nop => exact forall_mem_singleton shaped_idle
  | halt => exact forall_mem_singleton shaped_halt
  | stop => exact forall_mem_singleton (shaped_fatal _)
  | di => exact forall_mem_singleton { outside := fun s => rfl }
  | ei => exact forall_mem_singleton shaped_ei
  | illegal op => exact forall_mem_singleton (shaped_fatal _)

theorem SameOutside.trans {w u t : State} (h : SameOutside w u) (h' : SameOutside u t) : SameOutside w t := by
  unfold SameOutside at *
  rw [h', h]

/-- The state after a step with the bus access `b`, seen from outside the CPU: `s` after that access, or `s` itself with
a fatal condition recorded. -/
def Outside (s : State) (b : Option BusAccess) (t : State) : Prop :=
  SameOutside (s.afterBus b) t ∨ ∃ kind, t = { s with cpu := t.cpu, cur := t.cur, fault := some kind }

/-- The bus access of a step the table has. -/
theorem tableBus_of_stepAt {table : List Action} {s : State} {q : Seq} {work : Action} (hq : s.cur = some q)
    (hw : stepAt table q.k = some work) : tableBus table s = (work s).bus := by
  simp [tableBus, hq, hw]

/-- A step of a table whose steps are all of this shape. -/
theorem runTable_shaped {table : List Action} (ht : ∀ work ∈ table, Shaped work) {s t : State}
    (h : runTable table s = .next t) : Outside s (tableBus table s) t := by
  obtain hn | ⟨q, work, hq, hw, hr⟩ := runTable_cases table s
  · simp [hn] at h
  · rw [hr] at h
    rw [tableBus_of_stepAt hq hw]
    have hs := ht work (mem_of_stepAt hw)
    have ho := hs.outside s
    cases hwork : work s with
    | fatal kind u =>
      obtain rfl := hs.fatal s kind u hwork
      rw [hwork] at h
      cases h
      exact .inr ⟨kind, rfl⟩
    | go u b =>
      rw [hwork] at h ho
      refine .inl (ho.trans ?_)
      simp only [Flow.result, Host.Outcome.next.injEq] at h
      subst h
      split <;> rfl
    | endNow u b =>
      rw [hwork] at h ho
      refine .inl (ho.trans ?_)
      cases h
      rfl

/-- Everything an instruction's step can do outside the CPU. -/
theorem exec_outside {i : Instr} {s t : State} (h : exec i s = .next t) : Outside s (tableBus (formTable i.form) s) t := by
  rw [exec_eq_runTable] at h
  exact runTable_shaped (formTable_shaped _) h

/-- The work of M1 is internal: the fetch is that step's bus access (R17, R165). -/
theorem formTable_one_internal (f : Form) (work : Action) (h : stepAt (formTable f) 1 = some work) (s : State) :
    (work s).bus = none := by
  cases f <;> cases h <;> first | rfl | skip
  simp only
  split <;> rfl

/-- So is the work of M2 after a prefix (R166). -/
theorem formTable_two_internal (f : Form) (hf : f.prefixed = true) (work : Action)
    (h : stepAt (formTable f) 2 = some work) (s : State) : (work s).bus = none := by
  cases f <;> first | (cases h; rfl) | cases hf

/-- Every instruction of the secondary table is a prefixed one (R132). -/
theorem decodeCb_prefixed : ∀ op2 : Byte, (decodeCb op2).form.prefixed = true := by decide

/-- A sequence at a step whose work is internal has no access of its table's. -/
theorem tableBus_internal {f : Form} {s : State} {k : Nat} (hk : ∀ q, s.cur = some q → q.k = k)
    (h : ∀ work, stepAt (formTable f) k = some work → (work s).bus = none) : tableBus (formTable f) s = none := by
  unfold tableBus
  split
  · rfl
  · rename_i q hq
    rw [hk q hq]
    split
    · rfl
    · exact h _ ‹_›

/-- Writing the scratch keeps the number of the step. -/
theorem mapScratch_k {s : State} {q q' : Seq} {g : Scratch → Scratch} (hq : s.cur = some q)
    (h : (s.mapScratch g).cur = some q') : q'.k = q.k := by
  simp only [State.mapScratch, hq, Option.map_some, Option.some.injEq] at h
  rw [← h]

theorem serviceTable_shaped (v : Word) : ∀ work ∈ serviceTable v, Shaped work :=
  forall_mem_cons shaped_idle (forall_mem_cons shaped_idle
    (forall_mem_cons (shaped_servicePush fun s => hi s.cpu.pc)
      (forall_mem_cons (shaped_servicePush fun s => lo s.cpu.pc)
        (forall_mem_singleton { outside := fun s => rfl }))))

/-- A fetch, and the instruction's own first or second step after it: only the CPU differs. -/
theorem Outside.of_fetch {s s' t : State} {b : Option BusAccess} (hs : s' = { s with cpu := s'.cpu, cur := s'.cur })
    (hb : b = none) (h : Outside s' b t) : Outside s (some s.fetchAccess) t := by
  subst hb
  obtain h | ⟨kind, h⟩ := h
  · refine .inl (SameOutside.trans (u := s') ?_ h)
    unfold SameOutside
    rw [hs]
    rfl
  · refine .inr ⟨kind, ?_⟩
    rw [h, hs]

/-- Everything the sequence's step can do outside the CPU: the bus access that `State.bus` names (R176). -/
theorem perform_outside {s t : State} (h : perform s = .next t) : Outside s s.bus t := by
  cases hq : s.cur with
  | none => simp only [perform, hq, reduceCtorEq] at h
  | some q =>
    cases hk : q.kind with
    | instr x =>
      simp only [perform, hq, hk] at h
      simp only [State.bus, hq, hk]
      by_cases h1 : q.k = 1
      · rw [if_pos h1] at h
        rw [if_pos (.inl h1)]
        unfold fetchStep at h
        split at h
        · refine (exec_outside h).of_fetch rfl (tableBus_internal (k := 1) (fun q' hq' => ?_) ?_)
          · exact (mapScratch_k (s := s.incPc) hq hq').trans h1
          · exact fun work hw => formTable_one_internal _ work hw _
        · cases h
          exact .inl rfl
      · rw [if_neg h1] at h
        by_cases h2 : q.k = 2 ∧ x.cb = true
        · rw [if_pos h2] at h
          rw [if_pos (.inr h2)]
          refine (exec_outside h).of_fetch rfl (tableBus_internal (k := 2) (fun q' hq' => ?_) ?_)
          · exact (mapScratch_k (s := s.incPc) hq hq').trans h2.1
          · exact fun work hw => formTable_two_internal _ (decodeCb_prefixed _) work hw _
        · rw [if_neg h2] at h
          rw [if_neg (by simp [h1, h2])]
          unfold laterStep at h
          cases hi : x.instr with
          | instr i =>
            simp only [hi] at h
            exact exec_outside h
          | cbPrefix => simp only [hi, reduceCtorEq] at h
    | service v =>
      simp only [perform, hq, hk] at h
      simp only [State.bus, hq, hk]
      exact runTable_shaped (serviceTable_shaped _) h
    | haltWait =>
      simp only [perform, hq, hk] at h
      simp only [State.bus, hq, hk]
      exact runTable_shaped (forall_mem_singleton shaped_idle) h
    | haltResume =>
      simp only [perform, hq, hk] at h
      simp only [State.bus, hq, hk]
      exact runTable_shaped (forall_mem_singleton shaped_idle) h

/-- A bus access raises no fatal condition (R81). -/
theorem State.afterBus_fault (s : State) (b : Option BusAccess) : (s.afterBus b).fault = s.fault := by
  unfold State.afterBus
  split <;> simp

/-- Everything the decision and the host's input before it can do outside the CPU. -/
theorem ready_frame (s : State) :
    s.ready =
      { s with
        ime := s.ready.ime
        iflag := s.ready.iflag
        halted := s.ready.halted
        ppu := s.takeInput.ppu
        joypad := s.takeInput.joypad
        cur := s.ready.cur
        inputs := s.inputs.tail } := by
  have hi := s.takeInput_frame
  unfold State.ready
  split
  · obtain ⟨-, -, h⟩ | ⟨-, -, -, h⟩ | ⟨-, -, -, h⟩ | ⟨-, -, h⟩ := schedule_cases s.takeInput <;>
    · rw [h, hi]
      try rfl
  · rw [hi]

/-- Everything a step can do outside the CPU: after the decision, its bus access and then the ticks, or no access's
effect and no tick if a fatal condition was met (R160, R174, R176). -/
theorem step_outside {s t : State} (h : step s = .next t) :
    (∃ u, SameOutside (s.ready.afterBus s.ready.bus) u ∧ t = u.tick) ∨
      ∃ kind, t = { s.ready with cpu := t.cpu, cur := t.cur, fault := some kind } := by
  obtain ⟨hf, u, hu, ht⟩ := step_cases h
  obtain hu | ⟨kind, hu⟩ := perform_outside hu
  · have hr : u.fault = none := by
      rw [hu]
      show (s.ready.afterBus s.ready.bus).fault = none
      rw [State.afterBus_fault, ready_frame]
      exact hf
    obtain ⟨-, rfl⟩ | ⟨hn, -⟩ := ht
    · exact .inl ⟨u, hu, rfl⟩
    · exact absurd hr hn
  · obtain ⟨hn, -⟩ | ⟨-, rfl⟩ := ht
    · rw [hu] at hn
      cases hn
    · exact .inr ⟨kind, hu⟩

/-- A property of the parts outside the CPU that every step keeps: it survives the decision, a bus write and the ticks. -/
theorem step_keeps {P : State → Prop} (hready : ∀ s, P s → P s.ready) (hw : ∀ s a v, P s → P (s.write a v))
    (ht : ∀ s, P s → P s.tick) (hc : ∀ s p m h q k, P s → P { s with cpu := p, ime := m, halted := h, cur := q, fault := k })
    {s t : State} (hp : P s) (h : step s = .next t) : P t := by
  obtain ⟨u, hu, rfl⟩ | ⟨kind, h⟩ := step_outside h
  · apply ht
    rw [hu]
    refine hc _ _ _ _ _ _ ?_
    unfold State.afterBus
    split
    · exact hw _ _ _ (hready s hp)
    · exact hready s hp
    · exact hready s hp
  · rw [h]
    exact hc _ _ _ _ _ _ (hready s hp)

/-- The read a table's step reports. -/
theorem tableBus_read {table : List Action} (ht : ∀ work ∈ table, ReadsTrue work) {s : State} {a : Word} {v : Byte}
    (h : tableBus table s = some (.read a v)) : s.read a = v := by
  unfold tableBus at h
  split at h
  · cases h
  · split at h
    · cases h
    · rename_i hw
      exact ht _ (mem_of_stepAt hw) s a v h

/-- The byte of a recorded read is what the bus held at that address when the step ran (R15, R176). -/
theorem bus_read {s : State} {a : Word} {v : Byte} (h : s.bus = some (.read a v)) : s.read a = v := by
  unfold State.bus at h
  split at h
  · cases h
  · split at h
    · split at h
      · cases h
        rfl
      · split at h
        · exact tableBus_read (fun w hw => (formTable_shaped _ w hw).reads) h
        · cases h
    · exact tableBus_read (fun w hw => (serviceTable_shaped _ w hw).reads) h
    · exact tableBus_read (forall_mem_singleton shaped_idle.reads) h
    · exact tableBus_read (forall_mem_singleton shaped_idle.reads) h

/-- A step that runs has a sequence in flight, so it has a record, and the record's state is the step's (R176). -/
theorem record_of_step {s t : State} (h : step s = .next t) :
    ∃ q, s.ready.cur = some q ∧ s.record = some { kind := q.kind.record, k := q.k, bus := s.ready.bus, after := t } := by
  obtain ⟨-, u, hu, -⟩ := step_cases h
  cases hq : s.ready.cur with
  | none => simp [perform, hq] at hu
  | some q => exact ⟨q, rfl, by simp [State.record, hq, h]⟩

/-- A machine that does not step has no record (R440). -/
theorem record_of_stuck {s : State} (h : ∀ t, step s ≠ .next t) : s.record = none := by
  unfold State.record
  split
  · rename_i ht
    exact absurd ht (h _)
  · rfl

end Sys2Proof.Machine
end

