-- ==== Sys2Proof/Laws/Steps.lean ====
section
/-! SUPPORT. How the terms of Safety.lean follow from the step tables: an instruction's step from its table, the shared
step kinds, and what a bus write leaves at every address. -/

namespace Sys2Proof.Machine

/-- Performing a step of an instruction is the work of its table's step, and then its end. -/
theorem exec_of_form {i : Instr} {f : Form} {s : State} {q : Seq} {work : Action} (hf : i.form = f)
    (hq : s.cur = some q) (hw : stepAt (formTable f) q.k = some work) :
    exec i s = (work s).result q.k (formTable f).length := by
  rw [exec_eq_runTable, hf, runTable_of_stepAt hq hw]

/-- A property of a step of an instruction from the step of its table. -/
theorem StepDoes.of_form {i : Instr} {f : Form} {k : Nat} {R : State → Scratch → State → Prop} (hf : i.form = f)
    (work : Action) (hw : stepAt (formTable f) k = some work)
    (h : ∀ s x, s.cur = some ⟨.instr x, k⟩ → ∃ t, (work s).result k (formTable f).length = .next t ∧ R s x t) :
    StepDoes i k R := by
  intro s x hq
  rw [exec_of_form hf hq hw]
  exact h s x hq

/-- The end of a step before the last. -/
theorem result_go_lt {s : State} {b : Option BusAccess} {k len : Nat} (h : k < len) : (Flow.go s b).result k len = .next s.advance := by
  simp [Flow.result, h]

/-- The end of the last step. -/
theorem result_go_last {s : State} {b : Option BusAccess} {k len : Nat} (h : ¬ k < len) : (Flow.go s b).result k len = .next s.endSeq := by
  simp [Flow.result, h]

/-- The last step of an instruction, from the work of its table's last step. -/
theorem StepDoes.last {i : Instr} {f : Form} {k : Nat} {R : State → Scratch → State → Prop} (hf : i.form = f)
    (g : State → State) {b : State → Option BusAccess}
    (hw : stepAt (formTable f) k = some fun s => .go (g s) (b s)) (hn : (formTable f).length = k)
    (h : ∀ s x, s.cur = some ⟨.instr x, k⟩ → R s x (g s).endSeq) : StepDoes i k R :=
  StepDoes.of_form hf _ hw fun s x hq => ⟨_, result_go_last (hn ▸ Nat.lt_irrefl k), h s x hq⟩

/-- A primary instruction from its operation kind. -/
theorem Primary.of_form {op : Byte} {P : Instr → Prop} (f : Form) (hop : f.opByte = op) (hp : f.prefixed = false)
    (hw : f.wellFormed = true) (h : ∀ i, i.form = f → P i) : Primary op P := by
  obtain ⟨i, hi, hf⟩ := decodePrimary_opByte f hp hw
  exact ⟨i, hop ▸ hi, h i hf⟩

section kinds

variable {i : Instr} {f : Form} {k : Nat}

theorem Idles.of_form (hf : i.form = f) (hw : stepAt (formTable f) k = some idle)
    {n : Nat} (hn : (formTable f).length = n) (hl : k < n) : Idles i k :=
  StepDoes.of_form hf _ hw fun s x hq => ⟨s.advance, result_go_lt (hn ▸ hl), by
    simp [State.advance, hq]⟩

theorem FetchesLo.of_form (hf : i.form = f) (hw : stepAt (formTable f) k = some readLo)
    {n : Nat} (hn : (formTable f).length = n) (hl : k < n) : FetchesLo i k :=
  StepDoes.of_form hf _ hw fun s x hq => ⟨_, result_go_lt (hn ▸ hl), by
    simp [State.advance, State.setLo, State.mapScratch, State.incPc, State.setPc, State.setCpu, SeqKind.mapScratch, hq]⟩

theorem FetchesHi.of_form (hf : i.form = f) (hw : stepAt (formTable f) k = some readHi)
    {n : Nat} (hn : (formTable f).length = n) (hl : k < n) : FetchesHi i k :=
  StepDoes.of_form hf _ hw fun s x hq => ⟨_, result_go_lt (hn ▸ hl), by
    simp [State.advance, State.setHi, State.mapScratch, State.incPc, State.setPc, State.setCpu, SeqKind.mapScratch, hq]⟩

theorem FetchesTmp.of_form (hf : i.form = f) (hw : stepAt (formTable f) k = some readTmp)
    {n : Nat} (hn : (formTable f).length = n) (hl : k < n) : FetchesTmp i k :=
  StepDoes.of_form hf _ hw fun s x hq => ⟨_, result_go_lt (hn ▸ hl), by
    simp [State.advance, State.setTmp, State.mapScratch, State.incPc, State.setPc, State.setCpu, SeqKind.mapScratch,
      hq]⟩

theorem LoadsTmp.of_form (hf : i.form = f) (hw : stepAt (formTable f) k = some readHlTmp)
    {n : Nat} (hn : (formTable f).length = n) (hl : k < n) : LoadsTmp i k :=
  StepDoes.of_form hf _ hw fun s x hq => ⟨_, result_go_lt (hn ▸ hl), by
    simp [State.advance, State.setTmp, State.mapScratch, SeqKind.mapScratch, hq]⟩

theorem PopsLo.of_form (hf : i.form = f) (hw : stepAt (formTable f) k = some popA)
    {n : Nat} (hn : (formTable f).length = n) (hl : k < n) : PopsLo i k :=
  StepDoes.of_form hf _ hw fun s x hq => ⟨_, result_go_lt (hn ▸ hl), by
    simp [State.advance, State.setLo, State.mapScratch, State.incSp, State.setSp, State.setCpu, SeqKind.mapScratch, hq]⟩

theorem PopsHi.of_form (hf : i.form = f) (hw : stepAt (formTable f) k = some popB)
    {n : Nat} (hn : (formTable f).length = n) (hl : k < n) : PopsHi i k :=
  StepDoes.of_form hf _ hw fun s x hq => ⟨_, result_go_lt (hn ▸ hl), by
    simp [State.advance, State.setHi, State.mapScratch, State.incSp, State.setSp, State.setCpu, SeqKind.mapScratch, hq]⟩

theorem PushesDown.of_form (hf : i.form = f) (hw : stepAt (formTable f) k = some pushA)
    {n : Nat} (hn : (formTable f).length = n) (hl : k < n) : PushesDown i k :=
  StepDoes.of_form hf _ hw fun s x hq => ⟨_, result_go_lt (hn ▸ hl), by
    simp [State.advance, State.decSp, State.setSp, State.setCpu, hq]⟩

theorem Decides.of_form {cc : Cond} {g : State → Byte → State} {put : Scratch → Byte → Scratch} (hf : i.form = f)
    (hw : stepAt (formTable f) k = some (decideRead cc g)) {n : Nat} (hn : (formTable f).length = n)
    (hl : k < n) (hg : ∀ s v, g s v = s.mapScratch fun x => put x v) : Decides i k cc put :=
  StepDoes.of_form hf _ hw fun s x hq => by
    refine ⟨_, ?_, rfl⟩
    show Flow.result (decideCond cc (g s.incPc (s.read s.cpu.pc)) _) k _ = _
    rw [hg]
    by_cases hc : s.cpu.cond cc = true
    · have hc' : ((s.incPc.mapScratch fun x => put x (s.read s.cpu.pc)).cpu.cond cc) = true := hc
      rw [decideCond, if_pos hc', if_pos hc, result_go_lt (hn ▸ hl)]
      simp [State.advance, State.setTaken, State.mapScratch, State.incPc, State.setPc, State.setCpu,
        SeqKind.mapScratch, hq]
    · have hc' : ¬ ((s.incPc.mapScratch fun x => put x (s.read s.cpu.pc)).cpu.cond cc) = true := hc
      rw [decideCond, if_neg hc', if_neg hc]
      rfl

end kinds

/-! ### Reads after a write -/

/-- A write leaves what any other address of the array reads as, canonical or not. -/
theorem Memory.read_write_other (m : Memory) {a b : Nat} (v : Byte) (h : a ≠ b) : (m.write a v).read b = m.read b := by
  induction m with
  | nil =>
    simp only [Memory.write, Memory.put]
    split <;> simp [Memory.read, h]
  | cons kv m ih =>
    obtain ⟨k, w⟩ := kv
    unfold Memory.write
    split
    · simp only [Memory.put]
      split <;> simp [Memory.read, h]
    · split
      · rename_i hk
        have : k ≠ b := hk ▸ h
        simp only [Memory.put]
        split <;> simp [Memory.read, h, this]
      · simp only [Memory.read, ih]

/-! ### Where each region lies -/

/-- The addresses of a region (R72, R73), where it is one address or a window of its own. -/
def Region.Holds (m : Bool) (a : Word) : Region → Prop
  | .ppuRegister => (within a 0xFF40 0xFF45 || within a 0xFF47 0xFF4B) = true
  | .div => a = 0xFF04
  | .tima => a = 0xFF05
  | .tma => a = 0xFF06
  | .tac => a = 0xFF07
  | .intFlag => a = 0xFF0F
  | .intEnable => a = 0xFFFF
  | .dmaReg => a = 0xFF46
  | .joypad => a = 0xFF00
  | .bootRom => (m && within a 0x0000 0x00FF) = true
  | .unmap => a = 0xFF50
  | .vram => within a 0x8000 0x9FFF = true
  | .oam => within a 0xFE00 0xFE9F = true
  | .cartRom => within a 0x0000 0x7FFF = true
  | .flatRam => ¬ within a 0x0000 0x7FFF = true

theorem of_ite {α : Type} {P : α → Prop} {c : Prop} [Decidable c] {x y : α} (hx : c → P x) (hy : ¬ c → P y) :
    P (if c then x else y) := by
  by_cases h : c
  · rw [if_pos h]
    exact hx h
  · rw [if_neg h]
    exact hy h

theorem region_holds (m : Bool) (a : Word) : (region m a).Holds m a := by
  unfold region
  iterate 14 refine of_ite (P := Region.Holds m a) (fun h => h) fun hn => ?_
  exact hn

theorem eq_of_region_div {m : Bool} {a : Word} (h : region m a = .div) : a = 0xFF04 := by
  have := region_holds m a
  rwa [h] at this

theorem eq_of_region_tima {m : Bool} {a : Word} (h : region m a = .tima) : a = 0xFF05 := by
  have := region_holds m a
  rwa [h] at this

theorem eq_of_region_tma {m : Bool} {a : Word} (h : region m a = .tma) : a = 0xFF06 := by
  have := region_holds m a
  rwa [h] at this

theorem eq_of_region_tac {m : Bool} {a : Word} (h : region m a = .tac) : a = 0xFF07 := by
  have := region_holds m a
  rwa [h] at this

theorem eq_of_region_intFlag {m : Bool} {a : Word} (h : region m a = .intFlag) : a = 0xFF0F := by
  have := region_holds m a
  rwa [h] at this

theorem eq_of_region_intEnable {m : Bool} {a : Word} (h : region m a = .intEnable) : a = 0xFFFF := by
  have := region_holds m a
  rwa [h] at this

theorem eq_of_region_dmaReg {m : Bool} {a : Word} (h : region m a = .dmaReg) : a = 0xFF46 := by
  have := region_holds m a
  rwa [h] at this

theorem eq_of_region_joypad {m : Bool} {a : Word} (h : region m a = .joypad) : a = 0xFF00 := by
  have := region_holds m a
  rwa [h] at this

theorem eq_of_region_unmap {m : Bool} {a : Word} (h : region m a = .unmap) : a = 0xFF50 := by
  have := region_holds m a
  rwa [h] at this

/-- The overlay matters only in the boot ROM's window. -/
theorem region_overlay {a : Word} (h : ¬ a.toNat ≤ 0xFF) (m m' : Bool) : region m a = region m' a := by
  have hw : within a 0x0000 0x00FF = false := by simp [within, h]
  simp only [region, hw, Bool.and_false]

@[simp] theorem Ppu.write_model (p : Ppu) (port : PpuPort) (a : Word) (v : Byte) :
    (p.write port a v).model = p.model := by
  unfold Ppu.write
  split <;> rfl

/-- The default PPU keeps a byte at its address (R450). -/
theorem Ppu.read_write_other {p : Ppu} (hp : p.model = .null) (port port' : PpuPort) {a b : Word} (v : Byte)
    (h : a ≠ b) : (p.write port a v).read port' b = p.read port' b := by
  have hm : (p.write port a v).model = .null := by simp [hp]
  have hn : a.toNat ≠ b.toNat := fun he => h (BitVec.eq_of_toNat_eq he)
  simp only [Ppu.read, hm, hp]
  simp only [Ppu.write, hp]
  exact Memory.read_write_other _ _ hn

theorem Ppu.read_write_same {p : Ppu} (hp : p.model = .null) (hc : p.Canonical) (port port' : PpuPort) (a : Word)
    (v : Byte) : (p.write port a v).read port' a = v := by
  have hm : (p.write port a v).model = .null := by simp [hp]
  simp only [Ppu.read, hm]
  simp only [Ppu.write, hp]
  rw [Memory.read_write _ _ _ hc, if_pos rfl]

/-- Two states whose regions and whose devices answer alike at an address read alike there. What a caller leaves out holds
by definition. -/
theorem State.read_congr {s t : State} {b : Word} (hm : t.region b = s.region b := by rfl)
    (hp : s.ppuOwns b = true → ∀ port, t.ppu.read port b = s.ppu.read port b := by intros; rfl)
    (hd : b = 0xFF04 → t.timer.div = s.timer.div := by intros; rfl)
    (ht : b = 0xFF05 → t.timer.tima = s.timer.tima := by intros; rfl)
    (hu : b = 0xFF06 → t.timer.tma = s.timer.tma := by intros; rfl)
    (hc : b = 0xFF07 → t.timer.tac = s.timer.tac := by intros; rfl)
    (hq : b = 0xFF0F → t.iflag = s.iflag := by intros; rfl) (he : b = 0xFFFF → t.ie = s.ie := by intros; rfl)
    (hg : b = 0xFF46 → t.dma.reg = s.dma.reg := by intros; rfl)
    (hj : b = 0xFF00 → t.joypad = s.joypad := by intros; rfl) (hb : t.boot = s.boot := by rfl)
    (hr : t.rom = s.rom := by rfl)
    (hf : s.region b = .flatRam → t.ram.read b.toNat = s.ram.read b.toNat := by intros; rfl) : t.read b = s.read b := by
  unfold State.read
  rw [hm]
  cases h : s.region b with
  | ppuRegister | vram | oam => exact hp (by simp [State.ppuOwns, h]) _
  | div => exact congrArg hi (hd (eq_of_region_div h))
  | tima => exact ht (eq_of_region_tima h)
  | tma => exact hu (eq_of_region_tma h)
  | tac => exact congrArg (0b11111#5 ++ ·) (hc (eq_of_region_tac h))
  | intFlag => exact congrArg (0b111#3 ++ ·) (hq (eq_of_region_intFlag h))
  | intEnable => exact he (eq_of_region_intEnable h)
  | dmaReg => exact hg (eq_of_region_dmaReg h)
  | joypad => exact congrArg Joypad.read (hj (eq_of_region_joypad h))
  | bootRom => exact congrArg (Memory.read · b.toNat) hb
  | unmap => rfl
  | cartRom => exact congrArg (Memory.read · b.toNat) hr
  | flatRam => exact hf h

/-- The fields of the timer a TIMA increment leaves alone. -/
theorem Timer.edge_fields (t : Timer) (old : Bool) :
    (t.edge old).div = t.div ∧ (t.edge old).tma = t.tma ∧ (t.edge old).tac = t.tac ∧
      (t.edge old).reloadDue = t.reloadDue := by
  unfold Timer.edge Timer.incTima
  refine of_ite (P := fun u : Timer => u.div = t.div ∧ u.tma = t.tma ∧ u.tac = t.tac ∧ u.reloadDue = t.reloadDue)
    (fun _ => ?_) fun _ => ⟨rfl, rfl, rfl, rfl⟩
  exact of_ite (P := fun u : Timer => u.div = t.div ∧ u.tma = t.tma ∧ u.tac = t.tac ∧ u.reloadDue = t.reloadDue)
    (fun _ => ⟨rfl, rfl, rfl, rfl⟩) fun _ => ⟨rfl, rfl, rfl, rfl⟩

/-- What a bus write leaves at every address it does not concern (R72, R83). -/
theorem State.read_write_other (s : State) {a b : Word} (v : Byte) (hb : b ≠ a) (h : ¬ s.MayAlsoChange a b) :
    (s.write a v).read b = s.read b := by
  have hn : a.toNat ≠ b.toNat := fun he => hb (BitVec.eq_of_toNat_eq he.symm)
  cases hr : s.region a with
  | unmap =>
    have ha := eq_of_region_unmap hr
    have hbb : ¬ b.toNat ≤ 0xFF := fun hle => h (.inr (.inl ⟨ha, hle⟩))
    have hw : s.write a v = { s with bootMapped := false } := by simp [State.write, hr]
    rw [hw]
    exact State.read_congr (hm := region_overlay hbb _ _)
  | ppuRegister | vram | oam =>
    have hw : ∃ port, s.write a v = { s with ppu := s.ppu.write port a v } := ⟨_, by simp [State.write, hr]; rfl⟩
    obtain ⟨port, hw⟩ := hw
    rw [hw]
    refine State.read_congr (hp := fun ho port' => ?_)
    cases hm : s.ppu.model with
    | null => exact Ppu.read_write_other hm _ _ _ fun he => hb he.symm
    | external => exact absurd (.inr (.inr ⟨hm, by simp [State.ppuOwns, hr], ho⟩)) h
  | div =>
    have ha := eq_of_region_div hr
    have hw : s.write a v = { s with timer := s.timer.writeDiv } := by simp [State.write, hr]
    obtain ⟨-, h2, h3, -⟩ := Timer.edge_fields { s.timer with div := 0 } s.timer.sig
    rw [hw]
    exact State.read_congr (hd := fun he => absurd (he.trans ha.symm) hb)
      (ht := fun he => absurd (.inl ⟨.inl ha, he⟩) h) (hu := fun _ => h2) (hc := fun _ => h3)
  | tac =>
    have ha := eq_of_region_tac hr
    have hw : s.write a v = { s with timer := s.timer.writeTac v } := by simp [State.write, hr]
    obtain ⟨h1, h2, -, -⟩ := Timer.edge_fields { s.timer with tac := v.extractLsb' 0 3 } s.timer.sig
    rw [hw]
    exact State.read_congr (hd := fun _ => h1) (ht := fun he => absurd (.inl ⟨.inr ha, he⟩) h) (hu := fun _ => h2)
      (hc := fun he => absurd (he.trans ha.symm) hb)
  | tima =>
    have ha := eq_of_region_tima hr
    have hw : s.write a v = { s with timer := s.timer.writeTima v } := by simp [State.write, hr]
    rw [hw]
    have hf : (s.timer.writeTima v).div = s.timer.div ∧ (s.timer.writeTima v).tma = s.timer.tma ∧
        (s.timer.writeTima v).tac = s.timer.tac :=
      of_ite (P := fun u : Timer => u.div = s.timer.div ∧ u.tma = s.timer.tma ∧ u.tac = s.timer.tac)
        (fun _ => ⟨rfl, rfl, rfl⟩) fun _ => ⟨rfl, rfl, rfl⟩
    exact State.read_congr (hd := fun _ => hf.1) (ht := fun he => absurd (he.trans ha.symm) hb)
      (hu := fun _ => hf.2.1) (hc := fun _ => hf.2.2)
  | tma =>
    have ha := eq_of_region_tma hr
    have hw : s.write a v = { s with timer := s.timer.writeTma v } := by simp [State.write, hr]
    rw [hw]
    exact State.read_congr (hu := fun he => absurd (he.trans ha.symm) hb)
  | intFlag =>
    have ha := eq_of_region_intFlag hr
    have hw : s.write a v = { s with iflag := v.extractLsb' 0 5 } := by simp [State.write, hr]
    rw [hw]
    exact State.read_congr (hq := fun he => absurd (he.trans ha.symm) hb)
  | intEnable =>
    have ha := eq_of_region_intEnable hr
    have hw : s.write a v = { s with ie := v } := by simp [State.write, hr]
    rw [hw]
    exact State.read_congr (he := fun he => absurd (he.trans ha.symm) hb)
  | dmaReg =>
    have ha := eq_of_region_dmaReg hr
    have hw : s.write a v = { s with dma := s.dma.writeReg v } := by simp [State.write, hr]
    rw [hw]
    exact State.read_congr (hg := fun he => absurd (he.trans ha.symm) hb)
  | joypad =>
    have ha := eq_of_region_joypad hr
    have hw : s.write a v = { s with joypad := s.joypad.write v } := by simp [State.write, hr]
    rw [hw]
    exact State.read_congr (hj := fun he => absurd (he.trans ha.symm) hb)
  | bootRom => rw [State.write_romRegion _ _ _ (.inr hr)]
  | cartRom => rw [State.write_romRegion _ _ _ (.inl hr)]
  | flatRam =>
    rw [State.write_flatRam _ _ _ hr]
    exact State.read_congr (hf := fun _ => Memory.read_write_other _ _ hn)

/-- A byte written where bytes are kept is there (R77, R450). -/
theorem State.read_write_same {s : State} {a : Word} (v : Byte) (hc : s.Canonical) (h : s.keeps a = true) :
    (s.write a v).read a = v := by
  cases hr : s.region a with
  | flatRam =>
    have hr' := hr
    simp only [State.region] at hr'
    simp only [State.write, State.read, State.region, hr']
    rw [Memory.read_write _ _ _ hc.1, if_pos rfl]
  | ppuRegister | vram | oam =>
    have hm : s.ppu.model = .null := by simpa [State.keeps, hr] using h
    have hr' := hr
    simp only [State.region] at hr'
    simp only [State.write, State.read, State.region, hr']
    exact Ppu.read_write_same hm hc.2.2.2.1 _ _ _ _
  | _ => simp [State.keeps, hr] at h

/-- A store through the bus, whatever the registers and the sequence become. -/
theorem Stores.of_write (s : State) (a : Word) (v : Byte) (p : Cpu) (q : Option Seq) :
    Stores s { s.write a v with cpu := p, cur := q } a v where
  rest := rfl
  frame _ hb h := s.read_write_other v hb h
  kept hc h := State.read_write_same v hc h
  dropped h := by
    have : s.write a v = s := by
      cases hr : s.region a <;> simp_all [State.drops, State.write]
    show (s.write a v).read a = s.read a
    rw [this]

/-- A step that stores nothing. -/
theorem NoStore.of_eq (s : State) (p : Cpu) (q : Option Seq) : NoStore s { s with cpu := p, cur := q } :=
  ⟨rfl, fun _ => rfl⟩

/-- Pb of a push, from its table's step. -/
theorem PushesHi.of_form {i : Instr} {f : Form} {k : Nat} {v : State → Word} (hf : i.form = f)
    (hw : stepAt (formTable f) k = some (pushB v)) {n : Nat} (hn : (formTable f).length = n) (hl : k < n) :
    PushesHi i k v :=
  StepDoes.of_form hf _ hw fun s x hq => ⟨_, result_go_lt (hn ▸ hl), Stores.of_write s _ _ _ _, by
    simp [State.decSp, State.setSp], by simp [State.decSp, State.setSp, hq]⟩

/-! ### Register writes -/

theorem SetsR8.setR8 (p : Cpu) (r : R8) (v : Byte) : SetsR8 p (p.setR8 r v) r v := by
  refine ⟨?_, fun r' h => ?_, ?_, ?_, ?_⟩ <;> simp [Cpu.r8_setR8, *]

theorem SetsRp.setRp (p : Cpu) (d : Rp) (v : Word) : SetsRp p (p.setRp d v) d v := by
  refine ⟨?_, fun d' h => ?_, ?_, ?_, ?_⟩
  · cases d <;> first | exact cat_hi_lo v | rfl
  · cases d <;> cases d' <;> first | rfl | exact absurd rfl h
  all_goals cases d <;> rfl

/-- Clearing the low nibble of the low byte clears the low nibble of the word. -/
theorem cat_hi_lo_and (v : Word) : cat (hi v) (lo v &&& 0xF0#8) = v &&& 0xFFF0#16 := by
  apply BitVec.eq_of_getLsbD_eq
  intro i h
  simp only [cat, hi, lo, BitVec.getLsbD_append, BitVec.getLsbD_extractLsb', BitVec.getLsbD_and]
  by_cases h8 : i < 8
  · simp only [h8, if_true]
    interval_cases i <;> simp
  · simp only [h8, if_false]
    interval_cases i <;> simp at h8 ⊢

theorem SetsRp2.setRp2 (p : Cpu) (d : Rp2) (v : Word) :
    SetsRp2 p (p.setRp2 d v) d (if d = .af then v &&& 0xFFF0#16 else v) := by
  refine ⟨?_, fun d' h => ?_, ?_, ?_⟩
  · cases d <;> first | exact cat_hi_lo v | exact cat_hi_lo_and v
  · cases d <;> cases d' <;> first | rfl | exact absurd rfl h
  all_goals cases d <;> rfl

theorem FlagsAre.setFlags (p : Cpu) {z n h c z' n' h' c' : Bool} (hz : z = z') (hn : n = n') (hh : h = h')
    (hc : c = c') : FlagsAre (p.setFlags z n h c) z' n' h' c' :=
  ⟨(packFlags_bits z n h c).1.trans hz, (packFlags_bits z n h c).2.1.trans hn,
    (packFlags_bits z n h c).2.2.1.trans hh, (packFlags_bits z n h c).2.2.2.trans hc, packFlags_low z n h c⟩

end Sys2Proof.Machine
end

