-- ==== Sys2Proof/Tests/Slice0.lean ====
section
/-! SUPPORT. The model's own tests. An expected result is the spec's: a worked example of the rule named, or a vector of
95_test_vectors.md (V…). The witnesses show that the hypotheses of each statement can be met together. -/

namespace Sys2Proof.Tests

open Sys2Proof.Machine

/-! ### Helpers -/

/-- The start state of 95_test_vectors.md. -/
def base : State :=
  { State.reset with cpu := { State.reset.cpu with pc := 0xC000 }, bootMapped := false }

/-- The start state with other registers. -/
def regs (p : Cpu) : State := { base with cpu := p }

/-- Registers that are 0 but for PC. -/
def zero : Cpu := base.cpu

/-- The state with an instruction in flight at step `k`. -/
def atStep (k : Nat) (s : State) (x : Scratch := .fresh) : State := { s with cur := some ⟨.instr x, k⟩ }

/-- What a next state shows. -/
def seen {α : Type} (r : Result) (g : State → α) : Option α :=
  match r with
  | .next t => some (g t)
  | .fault _ => none
  | .refused _ => none

/-- A and F of a next state. -/
def aAndF (r : Result) : Option (Byte × Byte) := seen r fun t => (t.cpu.a, t.cpu.f)

/-- Whether a step answers a next state. -/
def goesOn (r : Result) : Bool := (seen r fun _ => ()).isSome

/-! ### WellFormed refuses ill-formed terms -/

theorem test_wf_operand_missing : (Insn.mk .ld_a_n []).wellFormed = false := by decide

theorem test_wf_operand_too_many : (Insn.mk .nop [0x00]).wellFormed = false := by decide

theorem test_wf_illegal_byte : (Form.illegal 0x00).wellFormed = false := by decide

theorem test_wf_every_form : (Form.illegal 0xFC).wellFormed = true ∧ (Insn.mk .jp_nn [0x50, 0x01]).wellFormed = true := by
  decide

/-! ### Words written out from the encodings (R122 to R135) -/

theorem test_decode_loads8 :
    decodePrimary 0b01111000 = .instr .ld_a_b ∧
    decodePrimary 0b01100110 = .instr .ld_h_mhl ∧
    decodePrimary 0b01110101 = .instr .ld_mhl_l ∧
    decodePrimary 0b00001110 = .instr .ld_c_n ∧
    decodePrimary 0b00110110 = .instr .ld_mhl_n ∧
    decodePrimary 0b00001010 = .instr .ld_a_mbc ∧
    decodePrimary 0b00010010 = .instr .ld_mde_a ∧
    decodePrimary 0b00100010 = .instr .ld_mhli_a ∧
    decodePrimary 0b00111010 = .instr .ld_a_mhld ∧
    decodePrimary 0b11100000 = .instr .ldh_mn_a ∧
    decodePrimary 0b11110010 = .instr .ldh_a_mc ∧
    decodePrimary 0b11101010 = .instr .ld_mnn_a := by
  decide

theorem test_decode_loads16 :
    decodePrimary 0b00010001 = .instr .ld_de_nn ∧
    decodePrimary 0b00001000 = .instr .ld_mnn_sp ∧
    decodePrimary 0b11111001 = .instr .ld_sp_hl ∧
    decodePrimary 0b11110101 = .instr .push_af ∧
    decodePrimary 0b11000001 = .instr .pop_bc ∧
    decodePrimary 0b11111000 = .instr .ld_hl_spe := by
  decide

theorem test_decode_alu8 :
    decodePrimary 0b10011110 = .instr .sbc_a_mhl ∧
    decodePrimary 0b11111110 = .instr .cp_a_n ∧
    decodePrimary 0b10000000 = .instr .add_a_b ∧
    decodePrimary 0b00110100 = .instr .inc_mhl ∧
    decodePrimary 0b00111101 = .instr .dec_a ∧
    decodePrimary 0b00100111 = .instr .daa ∧
    decodePrimary 0b00101111 = .instr .cpl ∧
    decodePrimary 0b00110111 = .instr .scf ∧
    decodePrimary 0b00111111 = .instr .ccf := by
  decide

theorem test_decode_alu16 :
    decodePrimary 0b00101001 = .instr .add_hl_hl ∧
    decodePrimary 0b00110011 = .instr .inc_sp ∧
    decodePrimary 0b00001011 = .instr .dec_bc ∧
    decodePrimary 0b11101000 = .instr .add_sp_e := by
  decide

theorem test_decode_rotates :
    decodePrimary 0b00000111 = .instr .rlca ∧
    decodePrimary 0b00001111 = .instr .rrca ∧
    decodePrimary 0b00010111 = .instr .rla ∧
    decodePrimary 0b00011111 = .instr .rra := by
  decide

theorem test_decode_control :
    decodePrimary 0b11000011 = .instr .jp_nn ∧
    decodePrimary 0b11010010 = .instr .jp_nc_nn ∧
    decodePrimary 0b11101001 = .instr .jp_hl ∧
    decodePrimary 0b00011000 = .instr .jr_e ∧
    decodePrimary 0b00111000 = .instr .jr_c_e ∧
    decodePrimary 0b11001101 = .instr .call_nn ∧
    decodePrimary 0b11001100 = .instr .call_z_nn ∧
    decodePrimary 0b11001001 = .instr .ret ∧
    decodePrimary 0b11000000 = .instr .ret_nz ∧
    decodePrimary 0b11011001 = .instr .reti ∧
    decodePrimary 0b11101111 = .instr .rst_28h := by
  decide

theorem test_decode_system :
    decodePrimary 0b00000000 = .instr .nop ∧
    decodePrimary 0b00010000 = .instr .stop ∧
    decodePrimary 0b01110110 = .instr .halt ∧
    decodePrimary 0b11110011 = .instr .di ∧
    decodePrimary 0b11111011 = .instr .ei ∧
    decodePrimary 0b11011101 = .instr .illegal_dd := by
  decide

theorem test_decode_prefixed :
    decodePrimary 0b11001011 = .cbPrefix ∧
    decodeCb 0b00110111 = .swap_a ∧
    decodeCb 0b00000000 = .rlc_b ∧
    decodeCb 0b00101110 = .sra_mhl ∧
    decodeCb 0b01111110 = .bit_7_mhl ∧
    decodeCb 0b10000110 = .res_0_mhl ∧
    decodeCb 0b11111000 = .set_7_b := by
  decide

/-- The two words of a call and of a prefixed instruction, and the operand bytes low first (R123). -/
theorem test_decode_bytes :
    decodeBytes [0xCD, 0x34, 0x12] = .ok ⟨.call_nn, [0x34, 0x12]⟩ [] ∧
    decodeBytes [0xCB, 0x37, 0xFF] = .ok ⟨.swap_a, []⟩ [0xFF] ∧
    decodeBytes [0xCB] = .rejected .prefixAlone ∧
    decodeBytes [0xC3, 0x00] = .rejected (.operandsMissing .jp_nn) := by
  decide

/-- The opcode table's numbering: one word of each width. -/
theorem test_decodeTableWord :
    decodeTableWord 8 0x3E = some .ld_a_n ∧ decodeTableWord 16 0xCB37 = some .swap_a ∧
    decodeTableWord 8 0xC3 = some .jp_nn ∧ decodeTableWord 8 0x10 = some .stop := by
  decide

/-- The host's way in: the next step runs the word that was placed. -/
theorem test_withFetchWord :
    seen (step (State.reset.withFetchWord 8 0x37)) (fun t => (t.cpu.f, t.cpu.pc, t.cur)) = some (0x10, 0x0001, none) := by
  decide

/-! ### One step each, from the worked examples of the rules -/

/-- R200 -/
theorem test_ld_b_a :
    seen (exec .ld_b_a (atStep 1 (regs { zero with a := 0x3C }))) (fun t => t.cpu.b) = some (0x3C) := by
  decide

/-- V41-2 -/
theorem test_ld_c_n :
    seen (exec .ld_c_n (atStep 2 { regs { zero with pc := 0xC001 } with ram := [(0xC001, 0xA5)] }))
      (fun t => (t.cpu.c, t.cpu.pc)) = some (0xA5, 0xC002) := by
  decide

/-- V41-3: the old HL is the address -/
theorem test_ld_h_mhl :
    seen (exec .ld_h_mhl (atStep 2 { regs { zero with h := 0xC1 } with ram := [(0xC100, 0x12)] }))
      (fun t => (t.cpu.h, t.cpu.l)) = some (0x12, 0x00) := by
  decide

/-- V41-4 -/
theorem test_ld_mhl_h :
    seen (exec .ld_mhl_h (atStep 2 (regs { zero with h := 0xC1, l := 0x23 }))) (fun t => t.read 0xC123) =
      some (0xC1) := by
  decide

/-- V41-7: a write to ROM is ignored -/
theorem test_ld_mnn_a_rom :
    seen (exec .ld_mnn_a (atStep 4 (regs { zero with a := 0x55 }) { Scratch.fresh with lo := 0x00, hi := 0x20 }))
      (fun t => t.ram) = some ([]) := by
  decide

/-- V41-8: IF bits 7:5 read 1 -/
theorem test_ldh_a_mn_if :
    seen (exec .ldh_a_mn (atStep 3 { regs { zero with pc := 0xC002 } with iflag := 0b00101 } { Scratch.fresh with tmp := 0x0F }))
      (fun t => t.cpu.a) = some (0xE5) := by
  decide

/-- V41-10: TAC bits 7:3 read 1 -/
theorem test_ldh_a_mc_tac :
    seen (exec .ldh_a_mc (atStep 2 { regs { zero with c := 0x07 } with timer := { base.timer with tac := 5 } }))
      (fun t => t.cpu.a) = some (0xFD) := by
  decide

/-- V41-11 -/
theorem test_ld_a_mhli_wraps :
    seen (exec .ld_a_mhli (atStep 2 { regs { zero with h := 0xFF, l := 0xFF } with ie := 0x1F }))
      (fun t => (t.cpu.a, t.cpu.hl)) = some (0x1F, 0x0000) := by
  decide

/-- V41-13 -/
theorem test_ldh_mn_a_unmaps :
    seen (exec .ldh_mn_a (atStep 3 { regs { zero with a := 0x01 } with bootMapped := true } { Scratch.fresh with tmp := 0x50 }))
      (fun t => t.bootMapped) = some (false) := by
  decide

/-- V42-1: the second operand byte is the high one -/
theorem test_ld_de_nn :
    seen (exec .ld_de_nn (atStep 3 { regs { zero with pc := 0xC002 } with ram := [(0xC002, 0xBE)] } { Scratch.fresh with lo := 0xEF }))
      (fun t => t.cpu.de) = some (0xBEEF) := by
  decide

/-- V42-2, the step that stores A -/
theorem test_push_af :
    seen (exec .push_af (atStep 3 (regs { zero with a := 0x12, f := 0xF0, sp := 0xCFFF })))
      (fun t => (t.read 0xCFFF, t.cpu.sp)) = some (0x12, 0xCFFE) := by
  decide

/-- V42-3: the low nibble of F is dropped -/
theorem test_pop_af :
    seen (exec .pop_af (atStep 3 { regs { zero with sp := 0xD001 } with ram := [(0xD001, 0x34)] } { Scratch.fresh with lo := 0xFF }))
      (fun t => (t.cpu.af, t.cpu.sp)) = some (0x34F0, 0xD002) := by
  decide

/-- V42-6 -/
theorem test_ld_hl_spe :
    seen (exec .ld_hl_spe (atStep 3 (regs { zero with sp := 0x00FF }) { Scratch.fresh with tmp := 0x01 }))
      (fun t => (t.cpu.hl, t.cpu.f)) = some (0x0100, 0x30) := by
  decide

/-- V42-5 -/
theorem test_ld_hl_spe_negative :
    seen (exec .ld_hl_spe (atStep 3 (regs { zero with f := 0xF0 }) { Scratch.fresh with tmp := 0xFF }))
      (fun t => (t.cpu.hl, t.cpu.f)) = some (0xFFFF, 0x00) := by
  decide

/-- V42-7, the step that stores the high byte -/
theorem test_ld_mnn_sp :
    seen (exec .ld_mnn_sp (atStep 5 (regs { zero with sp := 0xABCD }) { Scratch.fresh with lo := 0x00, hi := 0xD0 }))
      (fun t => t.read 0xD001) = some (0xAB) := by
  decide

/-- R261 -/
theorem test_add_a_b :
    aAndF (exec .add_a_b (atStep 1 (regs { zero with a := 0x3A, b := 0xC6 }))) = some (0x00, 0xB0) := by
  decide

/-- R262 -/
theorem test_adc_a_e :
    aAndF (exec .adc_a_e (atStep 1 (regs { zero with a := 0xE1, e := 0x0F, f := 0x10 }))) = some (0xF1, 0x20) := by
  decide

/-- V43-5 -/
theorem test_sub_a_b :
    aAndF (exec .sub_a_b (atStep 1 (regs { zero with a := 0x10, b := 0x20 }))) = some (0xF0, 0x50) := by
  decide

/-- R264 -/
theorem test_sbc_a_h :
    aAndF (exec .sbc_a_h (atStep 1 (regs { zero with a := 0x3B, h := 0x2A, f := 0x10 }))) = some (0x10, 0x40) := by
  decide

/-- V43-6 -/
theorem test_sbc_a_n :
    aAndF (exec .sbc_a_n (atStep 2 (regs { zero with f := 0x10 }))) = some (0xFF, 0x70) := by
  decide

/-- R265 -/
theorem test_and_a_n :
    aAndF (exec .and_a_n (atStep 2 { regs { zero with a := 0x5A } with ram := [(0xC000, 0x3F)] })) =
      some (0x1A, 0x20) := by
  decide

/-- R266 -/
theorem test_xor_a_a :
    aAndF (exec .xor_a_a (atStep 1 (regs { zero with a := 0x5A }))) = some (0x00, 0x80) := by
  decide

/-- R267 -/
theorem test_or_a_mhl :
    aAndF (exec .or_a_mhl (atStep 2 (regs { zero with a := 0x5A, h := 0xC1 }))) = some (0x5A, 0x00) := by
  decide

/-- R268 -/
theorem test_cp_a_n :
    aAndF (exec .cp_a_n (atStep 2 { regs { zero with a := 0x3C } with ram := [(0xC000, 0x2F)] })) =
      some (0x3C, 0x60) := by
  decide

/-- R270 -/
theorem test_inc_a :
    aAndF (exec .inc_a (atStep 1 (regs { zero with a := 0xFF, f := 0x10 }))) = some (0x00, 0xB0) := by
  decide

/-- V43-13 -/
theorem test_dec_mhl :
    seen (exec .dec_mhl (atStep 3 (regs { zero with h := 0xC1 }))) (fun t => (t.read 0xC100, t.cpu.f)) =
      some (0xFF, 0x60) := by
  decide

/-- V43-14 -/
theorem test_daa_after_add :
    aAndF (exec .daa (atStep 1 (regs { zero with a := 0x9A }))) = some (0x00, 0x90) := by
  decide

/-- V43-15 -/
theorem test_daa_after_sub :
    aAndF (exec .daa (atStep 1 (regs { zero with a := 0x4B, f := 0x60 }))) = some (0x45, 0x40) := by
  decide

/-- R275 -/
theorem test_cpl :
    aAndF (exec .cpl (atStep 1 (regs { zero with a := 0x35 }))) = some (0xCA, 0x60) := by
  decide

/-- V43-18 -/
theorem test_scf :
    aAndF (exec .scf (atStep 1 (regs { zero with f := 0xE0 }))) = some (0x00, 0x90) := by
  decide

/-- V43-17 -/
theorem test_ccf :
    aAndF (exec .ccf (atStep 1 (regs { zero with f := 0xF0 }))) = some (0x00, 0x80) := by
  decide

/-- V44-2, the second step: Z is not set -/
theorem test_add_hl_hl :
    seen (exec .add_hl_hl (atStep 2 (regs { zero with h := 0x80 }))) (fun t => (t.cpu.hl, t.cpu.f)) =
      some (0x0000, 0x10) := by
  decide

/-- V44-4 -/
theorem test_inc_sp :
    seen (exec .inc_sp (atStep 2 (regs { zero with sp := 0xFFFF, f := 0xF0 }))) (fun t => (t.cpu.sp, t.cpu.f)) =
      some (0x0000, 0xF0) := by
  decide

/-- V44-5 -/
theorem test_dec_bc :
    seen (exec .dec_bc (atStep 2 base)) (fun t => (t.cpu.bc, t.cpu.f)) = some (0xFFFF, 0x00) := by
  decide

/-- V44-6 -/
theorem test_add_sp_e :
    seen (exec .add_sp_e (atStep 4 (regs { zero with sp := 0xFFFE }) { Scratch.fresh with tmp := 0xFE }))
      (fun t => (t.cpu.sp, t.cpu.f)) = some (0xFFFC, 0x30) := by
  decide

/-- V45-1: Z is 0 even for a zero result -/
theorem test_rlca :
    aAndF (exec .rlca (atStep 1 (regs { zero with f := 0xF0 }))) = some (0x00, 0x00) := by
  decide

/-- V45-2 -/
theorem test_rla :
    aAndF (exec .rla (atStep 1 (regs { zero with a := 0x80 }))) = some (0x00, 0x10) := by
  decide

/-- V45-3 -/
theorem test_rra :
    aAndF (exec .rra (atStep 1 (regs { zero with a := 0x01, f := 0x10 }))) = some (0x80, 0x10) := by
  decide

/-- V45-4: the prefixed form sets Z -/
theorem test_rlc_b :
    seen (exec .rlc_b (atStep 2 base)) (fun t => t.cpu.f) = some (0x80) := by
  decide

/-- V45-5 -/
theorem test_rl_mhl :
    seen (exec .rl_mhl (atStep 4 (regs { zero with h := 0xC1 }) { Scratch.fresh with tmp := 0x80 }))
      (fun t => (t.read 0xC100, t.cpu.f)) = some (0x00, 0x90) := by
  decide

/-- V45-7: H and C are cleared -/
theorem test_swap_a :
    aAndF (exec .swap_a (atStep 2 (regs { zero with f := 0x30 }))) = some (0x00, 0x80) := by
  decide

/-- V45-12 -/
theorem test_sra_a :
    aAndF (exec .sra_a (atStep 2 (regs { zero with a := 0x81 }))) = some (0xC0, 0x10) := by
  decide

/-- V45-13 -/
theorem test_srl_a :
    aAndF (exec .srl_a (atStep 2 (regs { zero with a := 0x81 }))) = some (0x40, 0x10) := by
  decide

/-- V45-8: Cf is kept -/
theorem test_bit_0_mhl :
    seen (exec .bit_0_mhl (atStep 3 { regs { zero with h := 0xC1, f := 0x10 } with ram := [(0xC100, 0xFE)] }))
      (fun t => t.cpu.f) = some (0xB0) := by
  decide

/-- V45-10 -/
theorem test_res_0_mhl :
    seen (exec .res_0_mhl (atStep 4 (regs { zero with h := 0xC1, f := 0xF0 }) { Scratch.fresh with tmp := 0xFF }))
      (fun t => (t.read 0xC100, t.cpu.f)) = some (0xFE, 0xF0) := by
  decide

/-- V45-11 -/
theorem test_set_7_b :
    seen (exec .set_7_b (atStep 2 base)) (fun t => t.cpu.b) = some (0x80) := by
  decide

/-- V46-1 -/
theorem test_jr_e :
    seen (exec .jr_e (atStep 3 (regs { zero with pc := 0xC002 }) { Scratch.fresh with tmp := 0x80 }))
      (fun t => t.cpu.pc) = some (0xBF82) := by
  decide

/-- V46-2 -/
theorem test_jr_nz_e_untaken :
    seen (exec .jr_nz_e (atStep 2 { regs { zero with f := 0x80, pc := 0xC001 } with ram := [(0xC001, 0x10)] }))
      (fun t => (t.cpu.pc, t.cur)) = some (0xC002, none) := by
  decide

/-- V46-11 -/
theorem test_jp_hl :
    seen (exec .jp_hl (atStep 1 (regs { zero with h := 0x40 }))) (fun t => t.cpu.pc) = some (0x4000) := by
  decide

/-- V46-5, the step that stores the low byte and jumps -/
theorem test_call_nn :
    seen (exec .call_nn (atStep 6 (regs { zero with sp := 0xCFFE, pc := 0xC003 }) { Scratch.fresh with lo := 0x34, hi := 0x12 }))
      (fun t => (t.read 0xCFFE, t.cpu.pc, t.cur)) = some (0x03, 0x1234, none) := by
  decide

/-- V46-7 -/
theorem test_ret_c_untaken :
    seen (exec .ret_c (atStep 2 (regs { zero with sp := 0xD000, pc := 0xC001 })))
      (fun t => (t.cpu.pc, t.cpu.sp, t.cur)) = some (0xC001, 0xD000, none) := by
  decide

/-- V46-9, the first step: IME is scheduled -/
theorem test_reti :
    seen (exec .reti (atStep 1 base)) (fun t => t.ime) = some (.scheduledInitial) := by
  decide

/-- V46-10 -/
theorem test_rst_38h :
    seen (exec .rst_38h (atStep 4 (regs { zero with sp := 0xCFFE, pc := 0xC001 })))
      (fun t => (t.read 0xCFFE, t.cpu.pc)) = some (0x01, 0x0038) := by
  decide

/-- R395 -/
theorem test_di :
    seen (exec .di (atStep 1 { base with ime := .enabled })) (fun t => t.ime) = some (.disabled) := by
  decide

/-- R396: an enabled IME stays -/
theorem test_ei :
    seen (exec .ei (atStep 1 { base with ime := .enabled })) (fun t => t.ime) = some (.enabled) := by
  decide

/-- R392 -/
theorem test_halt :
    seen (exec .halt (atStep 1 base)) (fun t => (t.halted, t.fault)) = some (true, none) := by
  decide

/-- V47-3 -/
theorem test_halt_bug :
    seen (exec .halt (atStep 1 { base with ie := 0x01, iflag := 1 })) (fun t => (t.halted, t.fault)) =
      some (false, some .haltBugNotModelled) := by
  decide

/-- V47-2 -/
theorem test_stop :
    seen (exec .stop (atStep 1 base)) (fun t => t.fault) = some (some .stopNotModelled) := by
  decide

/-- R391 -/
theorem test_illegal :
    seen (exec .illegal_fc (atStep 1 base)) (fun t => (t.fault, t.cpu)) = some (some (.illegalOpcode 0xFC), zero) := by
  decide

/-! ### The machine's own steps -/

/-- VI-1, R423: vblank before timer; only its request bit is cleared (W8). -/
theorem test_dispatch_priority :
    seen (step { base with ime := .enabled, ie := 0x05, iflag := 0x05 })
      (fun t => (t.iflag, t.ime, t.cur)) = some (0x04, .disabled, some ⟨.service 0x0040, 2⟩) := by
  decide

/-- R422, S3: PC's high byte is stored below SP. -/
theorem test_service_store :
    seen (step { base with cpu := { zero with sp := 0xD000 }, cur := some ⟨.service 0x0040, 3⟩ })
      (fun t => (t.read 0xCFFF, t.cpu.sp)) = some (0xC0, 0xCFFF) := by
  decide

/-- R163: a halted machine with nothing pending waits one M-cycle; the timer goes on. -/
theorem test_halt_wait :
    seen (step { base with halted := true }) (fun t => (t.halted, t.cur, t.timer.div)) = some (true, none, 4) := by
  decide

/-- R164: an enabled request ends the halt although IME is Disabled. -/
theorem test_halt_resume :
    seen (step { base with halted := true, ie := 0x04, iflag := 0x04 }) (fun t => (t.halted, t.cur, t.iflag)) =
      some (false, none, 0x04) := by
  decide

/-- V47-5: after EI the IME is ScheduledNext, so an interrupt that is pending is not taken yet. -/
theorem test_ei_step :
    seen (step { base with ram := [(0xC000, 0xFB)], ie := 0x01, iflag := 0x01 }) (fun t => t.ime) =
      some .scheduledNext := by
  decide

/-- V47-2, R174: a faulting M-cycle runs no tick. -/
theorem test_fatal_step :
    seen (step { base with ram := [(0xC000, 0x10)] }) (fun t => (t.fault, t.timer.div)) =
      some (some .stopNotModelled, 0) := by
  decide

/-- R440: no M-cycle runs in the fault state. -/
theorem test_faulted_is_stuck :
    step { base with fault := some .stopNotModelled } = .fault (.fatal .stopNotModelled) :=
  rfl

/-- W6: the tick after an overflow reloads TIMA and requests the interrupt. -/
theorem test_timer_reload :
    let s := { base with timer := { base.timer with tma := 0x05, reloadPending := true, reloadDue := true } }
    (s.timerTick.timer.tima, s.timerTick.iflag) = (0x05, 0x04) := by
  decide

/-- VT-5: a write to DIV while the signal is high counts TIMA once. -/
theorem test_div_write_edge :
    let s := { base with timer := { base.timer with div := 0x0208, tac := 5 } }
    ((s.write 0xFF04 0x77).timer.div, (s.write 0xFF04 0x77).timer.tima) = (0, 1) := by
  decide

/-- W7: a copy step of a transfer from page 0xC1. -/
theorem test_dma_copy :
    let s := { base with ram := [(0xC102, 0x99)], dma := { src := 0xC100, progress := 2, status := .inProgress, reg := 0xC1 } }
    (s.dmaTick.read 0xFE02, s.dmaTick.dma.progress) = (0x99, 3) := by
  decide

/-- R452: the shim's lines are active low, in the selected group. -/
theorem test_joypad_shim :
    (Joypad.read { model := .shim, select := 0b01, actions := 0b0001, directions := 0b1000, ext := 0 }) = 0b11011110 := by
  decide

/-- R176, V47-4: the record of a fetch: kind, step number, the opcode read at PC, and the state after the ticks. -/
theorem test_record_fetch :
    (State.record { base with ram := [(0xC000, 0x76)] }).map (fun (r : MCycle) => (r.kind, r.k, r.bus, r.after.halted, r.after.timer.div)) =
      some (.instr, 1, some (.read 0xC000 0x76), true, 4) := by
  decide

/-- R176, V46-5: the record of the step of a CALL that stores PC's high byte. -/
theorem test_record_write :
    ((atStep 5 (regs { zero with sp := 0xCFFF, pc := 0xC003 }) { Scratch.fresh with op := 0xCD }).record).map
        (fun (r : MCycle) => (r.kind, r.k, r.bus)) =
      some (.instr, 5, some (.write 0xCFFF 0xC0)) := by
  decide

/-- R176, R163, R422: a halted step and the first of a service have no bus access. -/
theorem test_record_internal :
    (State.record { base with halted := true }).map (fun (r : MCycle) => (r.kind, r.bus)) = some (.haltWait, none) ∧
    (State.record { base with ime := .enabled, ie := 0x04, iflag := 0x04 }).map (fun (r : MCycle) => (r.kind, r.k, r.bus)) =
      some (.service 0x0050, 1, none) := by
  decide

/-- R176, R440: the history of a faulting machine ends with the M-cycle that met the fatal condition. -/
theorem test_history_ends :
    (history 3 { base with ram := [(0xC000, 0xDD)] }).map (fun (r : MCycle) => (r.bus, r.after.fault)) =
      [(some (.read 0xC000 0xDD), some (.illegalOpcode 0xDD))] := by
  decide

/-- R453: the host raises IF[4] at a boundary, before the decision. -/
theorem test_host_input :
    seen (step { base with ime := .enabled, ie := 0x10, inputs := [⟨true, none, none⟩] }) (fun t => (t.iflag, t.inputs)) =
      some (0, []) := by
  decide

/-- R483: the profile without a boot ROM reads the cartridge at 0x0000. -/
theorem test_post_boot :
    (State.postBoot { Launch.default with cartRom := [(0x0000, 0x31)], bootRom := [(0x0000, 0x99)] }).read 0x0000 = 0x31 := by
  decide

/-! ### Witnesses: the hypotheses of each statement can be met together -/

/-- A launch with an image of each kind. -/
def images : Launch :=
  { Launch.default with bootRom := [(0x00, 0x31), (0xFF, 0x50)], cartRom := [(0x0000, 0xC3), (0x7FFF, 0x01)],
                        ramInit := [(0xC000, 0x12), (0xFFFE, 0x34)],
                        inputs := [⟨true, none, some { model := .null, bytes := [(0x8000, 0x01)], ext := 0 }⟩] }

theorem base_canonical : base.Canonical :=
  ⟨by decide, by decide, by decide, by unfold Ppu.Canonical; decide, fun _ h => nomatch h⟩

theorem witness_EncodeThenDecode :
    (Insn.mk .nop []).wellFormed = true ∧ (Insn.mk .jr_e [0x80]).wellFormed = true ∧
    (Insn.mk .call_nn [0xFF, 0x00]).wellFormed = true ∧ (Insn.mk .set_7_a []).wellFormed = true := by
  decide

theorem witness_DecodeThenEncode : decodeBytes [0xFE, 0xFF, 0x76] = .ok ⟨.cp_a_n, [0xFF]⟩ [0x76] := by decide

theorem witness_DecoderTotalAndInjective : decodeByte 0x37 true = .instr .swap_a ∧ decodeByte 0x37 false = .instr .scf := by
  decide

theorem witness_LengthFromFirstByte :
    (Insn.mk .rlc_b []).wellFormed = true ∧ (Insn.mk .set_7_a []).wellFormed = true ∧
    (encode ⟨.rlc_b, []⟩).head? = some 0xCB ∧ (encode ⟨.rlc_b, []⟩).head? = (encode ⟨.set_7_a, []⟩).head? := by
  decide

/-- A fetch with IME Disabled and an interrupt pending, and one with IME Enabled and none; each kind of opcode. -/
theorem witness_StepRunsFetchedInstruction :
    let s := { base with ie := 0x01, iflag := 0x01, ram := [(0xC000, 0xC3), (0xC001, 0x50), (0xC002, 0x01)] }
    let u := { base with ime := .enabled, ie := 0x1F, ram := [(0xC000, 0xCB)] }
    (s.fault = none ∧ s.cur = none ∧ s.halted = false ∧ ¬ (s.ime = .enabled ∧ pending s.takeInput ≠ 0) ∧
      decodePrimary (s.takeInput.read s.takeInput.cpu.pc) = .instr .jp_nn ∧
      decodeBytes [0xC3, s.takeInput.read 0xC001, s.takeInput.read 0xC002] = .ok ⟨.jp_nn, [0x50, 0x01]⟩ [] ∧
      Instr.jp_nn.form.prefixed = false) ∧
    (u.fault = none ∧ u.cur = none ∧ u.halted = false ∧ ¬ (u.ime = .enabled ∧ pending u.takeInput ≠ 0) ∧
      decodePrimary (u.takeInput.read u.takeInput.cpu.pc) = .cbPrefix) := by
  decide

theorem witness_StepContinuesInstruction :
    let x : Scratch := { Scratch.fresh with cb := true, op2 := 0x46 }
    let y : Scratch := { Scratch.fresh with op := 0xC3 }
    ((atStep 2 base x).fault = none ∧ (atStep 2 base x).cur = some ⟨.instr x, 2⟩ ∧ x.cb = true) ∧
    ((atStep 3 base x).fault = none ∧ (atStep 3 base x).cur = some ⟨.instr x, 3⟩ ∧ x.cb = true) ∧
    ((atStep 2 base y).fault = none ∧ (atStep 2 base y).cur = some ⟨.instr y, 2⟩ ∧ y.cb = false ∧
      decodePrimary y.op = .instr .jp_nn) := by
  decide

theorem witness_FaultedMachineIsStuck :
    { base with fault := some .stopNotModelled }.fault = some .stopNotModelled ∧ goesOn (step base) = true := by
  decide

/-- At a boundary, in the middle of an instruction, in the middle of the service sequence. -/
theorem witness_RunningMachineAlwaysSteps :
    (base.SeqOk ∧ base.Running) ∧
    (let s := atStep 4 base { Scratch.fresh with op := 0xC3 }
     s.SeqOk ∧ s.Running) ∧
    (let s := { base with cur := some ⟨.service 0x0060, 5⟩ }
     s.SeqOk ∧ s.Running) := by
  refine ⟨⟨fun _ q hq => ?_, rfl⟩, ⟨fun _ q hq => ?_, rfl⟩, fun _ q hq => ?_, rfl⟩
  · cases hq
  · cases hq
    exact .inr (.inr ⟨rfl, .jp_nn, by decide, by decide, by decide⟩)
  · cases hq
    exact ⟨⟨4, by decide⟩, by decide, by decide⟩

theorem witness_SequenceLengths :
    (atStep 1 base).cur = some ⟨.instr .fresh, 1⟩ ∧ Instr.halt ≠ .stop ∧ (∀ op, Instr.halt.form ≠ .illegal op) ∧
    (base.ime = .enabled ∨ pending base = 0) ∧
    base.cpu.cond .nz = true ∧ Instr.call_nz_nn.form.cond = some .nz ∧ Instr.call_z_nn.form.cond = some .z ∧
    base.cpu.cond .z = false :=
  ⟨rfl, by decide, fun _ h => Form.noConfusion h, by decide, by decide, by decide, by decide, by decide⟩

theorem witness_LaunchMeetsInvariants :
    images.bootRom.wf 256 = true ∧ images.cartRom.wf 32768 = true ∧ images.ramInit.wf 65536 = true ∧
    images.ppu.Canonical ∧ ∀ x ∈ images.inputs, ∀ q, x.ppu = some q → q.Canonical := by
  refine ⟨by decide, by decide, by decide, by unfold Ppu.Canonical; decide, fun x hx q hq => ?_⟩
  obtain rfl : x = _ := List.mem_singleton.mp hx
  obtain rfl := Option.some.inj hq
  unfold Ppu.Canonical
  decide

theorem witness_FlagsLowNibbleStaysZero :
    { base with cpu := { zero with f := 0xF0 } }.FlagsLow ∧ goesOn (step { base with cpu := { zero with f := 0xF0 } }) = true := by
  unfold State.FlagsLow
  decide

/-- Each clause at a bound of its range. -/
theorem witness_BusReads :
    ((0xFF#16).toNat ≤ 0xFF ∧ { base with bootMapped := true }.bootMapped = true) ∧ base.bootMapped = false ∧
    (0x100 ≤ (0x100#16).toNat ∧ (0x7FFF#16).toNat ≤ 0x7FFF) ∧ base.region 0xA000 = .flatRam ∧ base.region 0xFFFE = .flatRam ∧
    base.ppuOwns 0x8000 = true ∧ base.ppuOwns 0xFE9F = true ∧ base.ppuOwns 0xFF4B = true ∧ base.ppu.model = .null ∧
    (let s := { base with ppu := { base.ppu with model := .external } }
     s.ppuOwns 0x9FFF = true ∧ s.ppuOwns 0xFE00 = true ∧ s.ppuOwns 0xFF40 = true ∧ s.ppu.model = .external) := by
  decide

theorem witness_FlatRamKeepsBytes :
    base.Canonical ∧ base.region 0xFF80 = .flatRam ∧ base.region 0xFEA0 = .flatRam ∧ (0xC000#16) ≠ 0xFF80 :=
  ⟨base_canonical, by decide, by decide, by decide⟩

theorem witness_RomNeverChanges :
    ((0x0000#16).toNat ≤ 0x7FFF ∧ base.bootMapped = false) ∧ ((0x0100#16).toNat ≤ 0x7FFF ∧ 0x100 ≤ (0x0100#16).toNat) ∧
    goesOn (step base) = true := by
  decide

theorem witness_DefaultPpuAndJoypad :
    base.Canonical ∧ base.ppu.model = .null ∧ base.ppuOwns 0xFE00 = true ∧ base.joypad.model = .default ∧
    { base with iflag := 0b10000 }.iflag[(4 : Fin 5)] = true :=
  ⟨base_canonical, by decide, by decide, by decide, by decide⟩

theorem witness_OverlayNeverReturns :
    ({ base with bootMapped := true }.bootMapped = true ∧ (0x00FF#16).toNat ≤ 0xFF) ∧ goesOn (step base) = true ∧
    base.bootMapped = false := by
  decide

theorem witness_MemoryStaysCanonical : (State.launch images).Canonical ∧ goesOn (step (State.launch images)) = true :=
  ⟨⟨by decide, by decide, by decide, by unfold Ppu.Canonical; decide, witness_LaunchMeetsInvariants.2.2.2.2⟩, by decide⟩

/-- The hypothesis of every `StepDoes`: an instruction in flight at any of its steps. It is the one of LoadRegister,
StoreByte, Load16, PushAndPop, SignedOffsetAdd, AddAndAdc, SubSbcAndCp, AndXorOr, IncAndDec8, DecimalAdjust,
ComplementAndCarry, IncAndDec16, AddPairToHl, RotatesAndShifts, BitTest, BitResetAndSet, Jumps, CallsAndRestarts, Returns,
NopDiEi and StopAndIllegalAreFatal. -/
theorem witness_StepDoes :
    (atStep 1 base).cur = some ⟨.instr .fresh, 1⟩ ∧ (atStep 2 base).cur = some ⟨.instr .fresh, 2⟩ ∧
    (atStep 3 base).cur = some ⟨.instr .fresh, 3⟩ ∧ (atStep 4 base).cur = some ⟨.instr .fresh, 4⟩ ∧
    (atStep 5 base).cur = some ⟨.instr .fresh, 5⟩ ∧ (atStep 6 base).cur = some ⟨.instr .fresh, 6⟩ := by
  decide

/-- The hypotheses of the clauses of `Stores`: another address, an address that keeps its byte, one that drops it. -/
theorem witness_Stores :
    ((0xC001#16) ≠ 0xC000 ∧ ¬ base.MayAlsoChange 0xC000 0xC001) ∧ (base.Canonical ∧ base.keeps 0xC000 = true) ∧
    base.drops 0x7FFF = true ∧ (State.reset).drops 0x00FF = true := by
  refine ⟨⟨by decide, ?_⟩, ⟨base_canonical, by decide⟩, by decide, by decide⟩
  unfold State.MayAlsoChange
  decide

/-- The registers that are not the destination. -/
theorem witness_SetsR8 : R8.a ≠ R8.b ∧ Rp.bc ≠ Rp.sp ∧ Rp2.af ≠ Rp2.hl := by decide

theorem witness_PushThenPop :
    let s := atStep 1 (regs { zero with sp := 0xD000, b := 0xBE, c := 0xEF })
    s.Canonical ∧ s.cur = some ⟨.instr .fresh, 1⟩ ∧ s.keeps (s.cpu.sp - 1) = true ∧ s.keeps (s.cpu.sp - 2) = true :=
  ⟨base_canonical, by decide, by decide, by decide⟩

theorem witness_DecimalAdjustIsDecimal : IsDecimal 0x99 ∧ IsDecimal 0x00 := by
  unfold IsDecimal
  decide

theorem witness_StopAndIllegalAreFatal :
    (0xD3#8) ∈ [0xD3#8, 0xDB, 0xDD, 0xE3, 0xE4, 0xEB, 0xEC, 0xED, 0xF4, 0xFC, 0xFD] ∧
    (0xFD#8) ∈ [0xD3#8, 0xDB, 0xDD, 0xE3, 0xE4, 0xEB, 0xEC, 0xED, 0xF4, 0xFC, 0xFD] := by
  decide

/-- HALT with IME Enabled and a request, with IME Disabled and none, and in the halt-bug condition. -/
theorem witness_HaltAndHaltBug :
    let s := atStep 1 { base with ime := .enabled, ie := 0x01, iflag := 0x01 }
    let u := atStep 1 { base with ie := 0x01, iflag := 0x01 }
    (s.cur = some ⟨.instr .fresh, 1⟩ ∧ s.ime = .enabled) ∧ pending (atStep 1 base) = 0 ∧
    (u.cur = some ⟨.instr .fresh, 1⟩ ∧ u.ime ≠ .enabled ∧ pending u ≠ 0) := by
  decide

/-- A step of an instruction that writes none of the three, and one that meets a fatal condition. -/
theorem witness_ControlStateWriters :
    goesOn (exec .nop (atStep 1 base)) = true ∧ Instr.nop ≠ .ei ∧ Instr.nop ≠ .di ∧ Instr.nop ≠ .reti ∧
    Instr.nop ≠ .halt ∧ seen (exec .stop (atStep 1 base)) (fun t => t.fault) ≠ some base.fault := by
  decide

/-- A dispatch of the last interrupt, a wait, a resumption and a fetch. -/
theorem witness_SchedulingDecision :
    let s := { base with ime := .enabled, ie := 0x1F, iflag := 0x10 }
    let u := { base with halted := true }
    (s.ime = .enabled ∧ (pending s)[(4 : Fin 5)] = true ∧ (∀ j : Fin 5, j < 4 → (pending s)[j] = false)) ∧
    (u.ime ≠ .enabled ∧ u.halted = true ∧ pending u = 0) ∧
    (pending { u with ie := 0x04, iflag := 0x04 } ≠ 0) ∧
    (base.ime ≠ .enabled ∧ base.halted = false ∧ base.fault = none ∧ base.cur = none) := by
  decide

theorem witness_ServiceSequence :
    let s := { base with cur := some ⟨.service 0x0040, 3⟩ }
    let u := { base with cur := some ⟨.haltWait, 1⟩ }
    s.fault = none ∧ s.cur = some ⟨.service 0x0040, 3⟩ ∧ (u.cur = some ⟨.haltWait, 1⟩ ∨ u.cur = some ⟨.haltResume, 1⟩) := by
  decide

/-- An EI with an interrupt pending, and what follows it. -/
theorem witness_EiLatency :
    let s := { base with ram := [(0xC000, 0xFB)], ie := 0x01, iflag := 0x01 }
    let u := { s with ime := .scheduledNext }
    (s.fault = none ∧ s.cur = none ∧ s.halted = false ∧ s.ime = .disabled ∧ s.takeInput.read s.cpu.pc = 0xFB) ∧
    (u.fault = none ∧ u.cur = none ∧ u.halted = false ∧ u.ime = .scheduledNext ∧
      seen (step u) (fun t => t.fault) = some none) := by
  decide

theorem witness_HostInputAtBoundary :
    base.inputs = [] ∧ (State.launch images).inputs = ⟨true, none, some { model := .null, bytes := [(0x8000, 0x01)], ext := 0 }⟩ :: [] := by
  decide

/-- An overflow in a tick, one by a write to DIV, and one by a write to TAC. -/
theorem witness_OverflowTiming :
    let s := { base with timer := { base.timer with div := 0x000C, tima := 0xFF, tma := 0x05, tac := 5 } }
    (s.timer.reloadPending = false ∧ s.timer.reloadDue = false ∧ s.timer.tima = 0xFF ∧
      timerSig s.timer.div s.timer.tac = true ∧ timerSig (s.timer.div + 4) s.timer.tac = false) ∧
    (s.write 0xFF04 0x00).timer.tima = 0 ∧ (s.write 0xFF07 0x00).timer.tima = 0 := by
  decide

/-- TIMA reaches 255 and no further. -/
theorem witness_TimerRate :
    let t := { base.timer with tima := 0xFE, tac := 5 }
    t.div = 0 ∧ t.tac[2] = true ∧ t.reloadPending = false ∧ t.reloadDue = false ∧ t.tac.toNat % 4 = 1 ∧
    t.tima.toNat + 7 / 4 ≤ 255 := by
  decide

theorem witness_DmaStartAndTick :
    base.dma.status = .off ∧ { base.dma with status := .scheduledInitial }.status = .scheduledInitial ∧
    { base.dma with status := .scheduledNext }.status = .scheduledNext ∧
    { base.dma with status := .inProgress, progress := 159 }.status = .inProgress := by
  decide

theorem witness_DmaTransfer : base.Canonical ∧ base.ppu.model = .null ∧ (0xFE#8) ≠ 0 ∧ base.region 0xC000 ≠ .oam :=
  ⟨base_canonical, by decide, by decide, by decide⟩

theorem witness_DeviceInvariantsKept :
    (let s := { base with timer := { base.timer with reloadPending := true, reloadDue := true } }
     s.TimerOk ∧ goesOn (step s) = true) ∧
    (let s := { base with dma := { src := 0xC100, progress := 159, status := .inProgress, reg := 0xC1 } }
     s.DmaOk ∧ goesOn (step s) = true) := by
  unfold State.TimerOk State.DmaOk
  decide

end Sys2Proof.Tests
end

section
/-! SUPPORT. What the work of a step does to the sequence in flight, the low nibble of F, IME, `halted` and `fault`, once for
every step table. -/

namespace Sys2Proof.Machine

/-! ### The sequence in flight, without its operands -/

/-- The part of the scratch that says which instruction is in flight. -/
def Scratch.opcode (x : Scratch) : Scratch := { Scratch.fresh with op := x.op, cb := x.cb, op2 := x.op2 }

/-- A sequence without the operands it has read so far. -/
def Seq.ident (q : Seq) : Seq := { q with kind := q.kind.mapScratch Scratch.opcode }

/-- The sequence in flight without the operands it has read so far. -/
def State.seqIdent (s : State) : Option Seq := s.cur.map Seq.ident

@[simp] theorem State.seqIdent_setCpu (s : State) (p : Cpu) : (s.setCpu p).seqIdent = s.seqIdent := rfl

@[simp] theorem State.seqIdent_setIme (s : State) (v : Ime) : (s.setIme v).seqIdent = s.seqIdent := rfl

@[simp] theorem State.seqIdent_write (s : State) (a : Word) (v : Byte) : (s.write a v).seqIdent = s.seqIdent := by
  simp [State.seqIdent]

/-- Writing the scratch outside the opcode bytes leaves the sequence the same one. -/
theorem State.seqIdent_mapScratch (s : State) {g : Scratch → Scratch} (hop : ∀ x, (g x).op = x.op)
    (hcb : ∀ x, (g x).cb = x.cb) (hop2 : ∀ x, (g x).op2 = x.op2) : (s.mapScratch g).seqIdent = s.seqIdent := by
  simp only [State.seqIdent, State.mapScratch_cur, Option.map_map]
  congr 1
  funext ⟨kind, k⟩
  cases kind <;> simp [Seq.ident, SeqKind.mapScratch, Scratch.opcode, hop, hcb, hop2]

/-! ### The low nibble of F -/

@[simp] theorem Cpu.setHl_f (p : Cpu) (v : Word) : (p.setHl v).f = p.f := rfl

@[simp] theorem Cpu.setRp_f (p : Cpu) (q : Rp) (v : Word) : (p.setRp q v).f = p.f := by cases q <;> rfl

/-- The one write of F as a byte drops the low nibble (R36, R236). -/
theorem Cpu.setRp2_low {p : Cpu} (h : p.f &&& 0x0F#8 = 0) (q : Rp2) (v : Word) :
    (p.setRp2 q v).f &&& 0x0F#8 = 0 := by
  cases q with
  | bc | de | hl => exact h
  | af =>
    show lo v &&& 0xF0#8 &&& 0x0F#8 = 0
    rw [BitVec.and_assoc]
    exact BitVec.and_zero

/-! ### The state a step's work leaves, by kind of step -/

@[simp] theorem idle_state (s : State) : (idle s).state = s := rfl

@[simp] theorem act_state (g : State → State) (s : State) : (act g s).state = g s := rfl

@[simp] theorem reads_state (addr : State → Word) (g : State → Byte → State) (s : State) :
    (reads addr g s).state = g s (s.read (addr s)) := rfl

@[simp] theorem operand_state (g : State → Byte → State) (s : State) :
    (operand g s).state = g s.incPc (s.read s.cpu.pc) := rfl

@[simp] theorem writes_state (addr : State → Word) (val : State → Byte) (g : State → State → State) (s : State) :
    (writes addr val g s).state = g s (s.write (addr s) (val s)) := rfl

@[simp] theorem decideCond_state (cc : Cond) (s : State) (b : Option BusAccess) :
    (decideCond cc s b).state = s.setTaken (s.cpu.cond cc) := by
  unfold decideCond
  split <;> simp [Flow.state, *]

@[simp] theorem decideRead_state (cc : Cond) (g : State → Byte → State) (s : State) :
    (decideRead cc g s).state =
      (g s.incPc (s.read s.cpu.pc)).setTaken ((g s.incPc (s.read s.cpu.pc)).cpu.cond cc) :=
  decideCond_state ..

/-! ### Steps that keep to their sequence -/

/-- The kinds that write IME (R40). -/
def WritesIme (f : Form) : Prop := f = .ei ∨ f = .di ∨ f = .reti

/-- The kinds that can raise a fatal condition (R441). -/
def CanFault (f : Form) : Prop := f = .stop ∨ f = .halt ∨ ∃ op, f = .illegal op

/-- From `s` to `t` the sequence in flight stays the same one at the same step and the low nibble of F stays 0, IME
changes only if `I` and `halted` only if `H`, and no fatal condition is recorded. -/
structure Keeps (I H : Prop) (s t : State) : Prop where
  seq : t.seqIdent = s.seqIdent
  low : s.FlagsLow → t.FlagsLow
  ime : t.ime = s.ime ∨ I
  halted : t.halted = s.halted ∨ H
  fault : t.fault = s.fault

/-- A step's work that keeps to its sequence, and raises a fatal condition only if `F`. An ordinary step is a composition of
register, scratch and bus writes, for which both hold by the laws of those; only the others state them. -/
structure Tame (I H F : Prop) (work : Action) : Prop where
  keeps : ∀ s, Keeps I H s (work s).state := by
    intro s
    constructor <;>
      simp +contextual [readLo, readHi, readTmp, readHlTmp, decideStep, pushA, pushB, pushC, popA, popB, modifyHl,
        State.alu, State.modifyR8, State.addHlLow, State.addHlHigh, State.jumpRel, State.jumpHiLo,
        State.setR8_eq, State.setHl_eq, State.setRp_eq, State.setRp2_eq, State.setPc_eq, State.incPc_eq,
        State.setSp_eq, State.decSp_eq, State.incSp_eq, State.setFlags_eq, State.setFlagsOf_eq, State.setLo_eq,
        State.setHi_eq, State.setTmp_eq, State.setCarryLo_eq, State.setTaken_eq, State.seqIdent_mapScratch,
        State.FlagsLow, packFlags_low, Cpu.setRp2_low]
  fatal : ∀ s kind u, work s = .fatal kind u → F := by
    intro s kind u h
    cases h

/-- A step with no effect keeps to any sequence (R17). -/
theorem tame_idle : Tame False False False idle := {}

/-- A decision ends the sequence or lets it go on (R169, R170). -/
theorem decideCond_ne_fatal (cc : Cond) (s : State) (b : Option BusAccess) (kind : FatalKind) (u : State) :
    decideCond cc s b ≠ .fatal kind u := by
  unfold decideCond
  split <;> nofun

/-- The decision of RET cc (R369). -/
theorem tame_decideStep {I H F : Prop} (cc : Cond) : Tame I H F (decideStep cc) where
  fatal _ _ _ h := (decideCond_ne_fatal _ _ _ _ _ h).elim

/-- The decision of JP cc and CALL cc (R362, R367). -/
theorem tame_decideReadHi {I H F : Prop} (cc : Cond) : Tame I H F (decideRead cc State.setHi) where
  fatal _ _ _ h := (decideCond_ne_fatal _ _ _ _ _ h).elim

/-- The decision of JR cc (R365). -/
theorem tame_decideReadTmp {I H F : Prop} (cc : Cond) : Tame I H F (decideRead cc State.setTmp) where
  fatal _ _ _ h := (decideCond_ne_fatal _ _ _ _ _ h).elim

/-- HALT's step: the flag, or the fatal condition (R392, R393). -/
theorem tame_halt :
    Tame (WritesIme .halt) (Form.halt = .halt) (CanFault .halt)
      fun s => if s.haltBug then .fatal .haltBugNotModelled s else .go { s with halted := true } where
  keeps s := by
    split <;> exact ⟨rfl, id, .inl rfl, .inr rfl, rfl⟩
  fatal _ _ _ _ := .inr (.inl rfl)

/-- EI's step (R396). -/
theorem tame_ei {H F : Prop} :
    Tame (WritesIme .ei) H F (act fun s => if s.ime = .disabled then s.setIme .scheduledInitial else s) where
  keeps s := by
    rw [act_state]
    split <;> exact ⟨rfl, id, .inr (.inl rfl), .inl rfl, rfl⟩

/-- A step that only raises a fatal condition. -/
theorem tame_fatal {I H F : Prop} (kind : FatalKind) (hF : F) : Tame I H F fun s => .fatal kind s where
  keeps _ := ⟨rfl, id, .inl rfl, .inl rfl, rfl⟩
  fatal _ _ _ _ := hF

/-- Every step of every instruction: the kinds by the number of their steps, then those with a decision, then those that
write IME or `halted` or raise a fatal condition. -/
theorem formTable_tame (f : Form) : ∀ work ∈ formTable f, Tame (WritesIme f) (f = .halt) (CanFault f) work := by
  cases f with
  | ldRR | aluR | incR | decR | daa | cpl | scf | ccf | rlca | rrca | rla | rra | jpHl | nop =>
    exact forall_mem_singleton {}
  | ldRN | ldRM | ldMR | ldABc | ldADe | ldBcA | ldDeA | ldhAC | ldhCA | ldAHld | ldHldA | ldAHli | ldHliA | ldSpHl
  | aluM | aluN | incRp | decRp | addHl | rotR | bitR | resR | setR =>
    exact forall_mem_cons {} (forall_mem_singleton {})
  | ldMN | ldhAN | ldhNA | ldRpNn | pop | ldHlSpE | incM | decM | bitM | jrE =>
    exact forall_mem_cons {} (forall_mem_cons {} (forall_mem_singleton {}))
  | ldANn | ldNnA | push | addSpE | rotM | resM | setM | jpNn | ret | rst =>
    exact forall_mem_cons {} (forall_mem_cons {} (forall_mem_cons {} (forall_mem_singleton {})))
  | ldNnSp =>
    exact forall_mem_cons {} (forall_mem_cons {} (forall_mem_cons {} (forall_mem_cons {} (forall_mem_singleton {}))))
  | callNn =>
    exact forall_mem_cons {} (forall_mem_cons {} (forall_mem_cons {} (forall_mem_cons {} (forall_mem_cons {}
      (forall_mem_singleton {})))))
  | jrCc cc => exact forall_mem_cons {} (forall_mem_cons (tame_decideReadTmp cc) (forall_mem_singleton {}))
  | jpCc cc =>
    exact forall_mem_cons {} (forall_mem_cons {} (forall_mem_cons (tame_decideReadHi cc) (forall_mem_singleton {})))
  | callCc cc =>
    exact forall_mem_cons {} (forall_mem_cons {} (forall_mem_cons (tame_decideReadHi cc) (forall_mem_cons {}
      (forall_mem_cons {} (forall_mem_singleton {})))))
  | retCc cc =>
    exact forall_mem_cons {} (forall_mem_cons (tame_decideStep cc) (forall_mem_cons {} (forall_mem_cons {}
      (forall_mem_singleton {}))))
  | reti =>
    exact forall_mem_cons { keeps := fun _ => ⟨rfl, id, .inr (.inr (.inr rfl)), .inl rfl, rfl⟩ }
      (forall_mem_cons {} (forall_mem_cons {} (forall_mem_singleton {})))
  | di => exact forall_mem_singleton { keeps := fun _ => ⟨rfl, id, .inr (.inr (.inl rfl)), .inl rfl, rfl⟩ }
  | ei => exact forall_mem_singleton tame_ei
  | halt => exact forall_mem_singleton tame_halt
  | stop => exact forall_mem_singleton (tame_fatal _ (.inl rfl))
  | illegal op => exact forall_mem_singleton (tame_fatal _ (.inr (.inr ⟨op, rfl⟩)))

/-- Every step of the service sequence (R422). -/
theorem serviceTable_tame (v : Word) : ∀ work ∈ serviceTable v, Tame False False False work :=
  forall_mem_cons {} (forall_mem_cons {} (forall_mem_cons {} (forall_mem_cons {} (forall_mem_singleton {}))))

end Sys2Proof.Machine
end

section
/-! PROOFS. What follows for IME, `halted`, `fault` and the low nibble of F (10_state.md R36, R40, R43, R52). -/

namespace Sys2Proof.Machine

/-- Everything a step of a table that answers a next state did: its work and the end of the step, or a fatal condition
raised (R160, R170, R174). -/
theorem runTable_inv {table : List Action} {s t : State} (h : runTable table s = .next t) :
    ∃ work ∈ table, (t = (work s).state.advance ∨ t = (work s).state.endSeq) ∨
      ∃ kind u, work s = .fatal kind u ∧ t = u.raiseFatal kind := by
  obtain hn | ⟨q, work, -, hw, hr⟩ := runTable_cases table s
  · simp [hn] at h
  · refine ⟨work, mem_of_stepAt hw, ?_⟩
    rw [hr] at h
    cases hv : work s with
    | go v b =>
      rw [hv] at h
      simp only [Flow.result, Host.Outcome.next.injEq] at h
      subst h
      exact .inl (of_ite (P := fun x => x = v.advance ∨ x = v.endSeq) (fun _ => .inl rfl) fun _ => .inr rfl)
    | endNow v b =>
      rw [hv] at h
      cases h
      exact .inl (.inr rfl)
    | fatal kind v =>
      rw [hv] at h
      cases h
      exact .inr ⟨kind, v, rfl, rfl⟩

/-- What performing a table of tame steps does to the low nibble of F and to the control state. -/
theorem runTable_tame {I H F : Prop} {table : List Action} (ht : ∀ work ∈ table, Tame I H F work) {s t : State}
    (h : runTable table s = .next t) :
    (s.FlagsLow → t.FlagsLow) ∧ (t.ime = s.ime ∨ I) ∧ (t.halted = s.halted ∨ H) ∧ (t.fault = s.fault ∨ F) := by
  obtain ⟨work, hw, hend⟩ := runTable_inv h
  obtain ⟨-, hlow, hime, hhalted, hfault⟩ := (ht work hw).keeps s
  obtain (rfl | rfl) | ⟨kind, u, hu, rfl⟩ := hend
  · exact ⟨hlow, hime, hhalted, .inl hfault⟩
  · exact ⟨hlow, hime, hhalted, .inl hfault⟩
  · rw [hu] at hlow hime hhalted
    exact ⟨hlow, hime, hhalted, .inr ((ht work hw).fatal s kind u hu)⟩

/-- What a step of an instruction does to them. -/
theorem exec_tame {i : Instr} {s t : State} (h : exec i s = .next t) :
    (s.FlagsLow → t.FlagsLow) ∧ (t.ime = s.ime ∨ WritesIme i.form) ∧ (t.halted = s.halted ∨ i.form = .halt) ∧
      (t.fault = s.fault ∨ CanFault i.form) := by
  rw [exec_eq_runTable] at h
  exact runTable_tame (formTable_tame _) h

/-- Two instructions of one kind are the same. -/
theorem Instr.eq_of_form {i j : Instr} {f : Form} (hf : j.form = f) (h : i.form = f) : i = j :=
  Instr.form_injective (h.trans hf.symm)

/-- Settles O50: the steps of every other instruction's table keep IME, `halted` and `fault` (`formTable_tame`), and the kind
of a table names the instruction. -/
theorem controlStateWriters : Obligations.ControlStateWriters := by
  intro i s t h
  obtain ⟨-, hime, hhalted, hfault⟩ := exec_tame h
  refine ⟨fun hei hdi hreti => hime.resolve_right ?_, fun hh => hhalted.resolve_right ?_, fun hn => ?_⟩
  · rintro (hf | hf | hf)
    · exact hei (Instr.eq_of_form rfl hf)
    · exact hdi (Instr.eq_of_form rfl hf)
    · exact hreti (Instr.eq_of_form rfl hf)
  · exact fun hf => hh (Instr.eq_of_form rfl hf)
  · obtain hf | hf | hf := hfault.resolve_left hn
    · exact .inl (Instr.eq_of_form rfl hf)
    · exact .inr (.inl (Instr.eq_of_form rfl hf))
    · exact .inr (.inr hf)

/-! ### The low nibble of F -/

theorem exec_flagsLow {i : Instr} {s t : State} (hs : s.FlagsLow) (h : exec i s = .next t) : t.FlagsLow :=
  (exec_tame h).1 hs

/-- M1 writes no register but PC before the instruction's own first step. -/
theorem fetchStep_flagsLow {s t : State} (hs : s.FlagsLow) (h : fetchStep s = .next t) : t.FlagsLow := by
  unfold fetchStep at h
  split at h
  · exact exec_flagsLow (s := s.fetched) hs h
  · cases h
    exact hs

theorem laterStep_flagsLow {x : Scratch} {s t : State} (hs : s.FlagsLow) (h : laterStep x s = .next t) :
    t.FlagsLow := by
  unfold laterStep at h
  split at h
  · exact exec_flagsLow hs h
  · cases h

/-- Performing a step of any sequence keeps the low nibble of F 0. -/
theorem perform_flagsLow {s t : State} (hs : s.FlagsLow) (h : perform s = .next t) : t.FlagsLow := by
  cases hq : s.cur with
  | none => simp [perform, hq] at h
  | some q =>
    obtain ⟨kind, k⟩ := q
    simp only [perform, hq] at h
    cases kind with
    | instr x =>
      dsimp only at h
      split at h
      · exact fetchStep_flagsLow hs h
      · split at h
        · exact exec_flagsLow (s := s.fetchedCb) hs h
        · exact laterStep_flagsLow hs h
    | service v => exact (runTable_tame (serviceTable_tame v) h).1 hs
    | haltWait => exact (runTable_tame (forall_mem_singleton tame_idle) h).1 hs
    | haltResume => exact (runTable_tame (forall_mem_singleton tame_idle) h).1 hs

/-- The host's input and the decision write no register. -/
theorem ready_cpu (s : State) : s.ready.cpu = s.cpu := by rw [ready_frame]

/-- Every step keeps the low nibble of F 0 (R36). -/
theorem step_flagsLow {s t : State} (hs : s.FlagsLow) (h : step s = .next t) : t.FlagsLow := by
  obtain ⟨-, u, hu, ht⟩ := step_cases h
  have hlow : u.FlagsLow := perform_flagsLow (by rwa [State.FlagsLow, ready_cpu]) hu
  obtain ⟨-, rfl⟩ | ⟨-, rfl⟩ := ht
  · rwa [State.FlagsLow, State.tick_cpu]
  · exact hlow

/-- The launch appends the low nibble 0 to the open flags (R36, R54). -/
theorem launch_flagsLow (p : Launch) : (State.launch p).FlagsLow := by
  have h : ∀ x : BitVec 4, (x ++ 0#4) &&& 0x0F#8 = 0 := by decide
  exact h p.flags

/-- Settles O15: the launches hold F with a low nibble of 0, every step's table keeps it so, and nothing else in an M-cycle
writes a register. -/
theorem flagsLowNibbleStaysZero : Obligations.FlagsLowNibbleStaysZero :=
  ⟨fun p => ⟨launch_flagsLow p, show 0xB0#8 &&& 0x0F#8 = 0 by decide⟩, fun _ _ => step_flagsLow, fun _ _ => rfl⟩

end Sys2Proof.Machine
end

section
/-! PROOFS. A sequence in flight always has a next step (10_state.md R51). -/

namespace Sys2Proof.Machine

/-- The sequence at its next step. -/
def Seq.next (q : Seq) : Seq := { q with k := q.k + 1 }

/-- Whether a sequence has a next step does not depend on the operands it has read. -/
theorem Seq.ok_of_ident_eq {q r : Seq} (h : r.ident = q.ident) (hq : q.Ok) : r.Ok := by
  have hid : ∀ q : Seq, q.ident.Ok ↔ q.Ok := by
    rintro ⟨_ | _ | _ | _, k⟩ <;> exact Iff.rfl
  rw [← hid r, h]
  exact (hid q).mpr hq

theorem Seq.ident_next {q r : Seq} (h : r.ident = q.ident) : r.next.ident = q.next.ident := by
  simpa [Seq.ident, Seq.next] using h

theorem State.exists_cur_of_seqIdent_eq {s u : State} {q : Seq} (h : u.seqIdent = s.seqIdent) (hq : s.cur = some q) :
    ∃ r, u.cur = some r ∧ r.ident = q.ident := by
  simpa [State.seqIdent, hq] using h

/-- The end of a step before the last. -/
theorem State.seqOk_advance {u : State} {r : Seq} (hr : u.cur = some r) (h : r.next.Ok) : u.advance.SeqOk := by
  intro _ q hq
  obtain rfl : r.next = q := by simpa [hr, Seq.next] using hq
  exact h

theorem State.seqOk_of_cur_none {s : State} (h : s.cur = none) : s.SeqOk := by
  intro _ q hq
  rw [h] at hq
  cases hq

/-- Performing an existing step of a table of tame steps answers a next state, whose sequence has a next step if the
table has one. -/
theorem runTable_seqOk {I H F : Prop} {table : List Action} (ht : ∀ work ∈ table, Tame I H F work) {s : State}
    {q : Seq} (hq : s.cur = some q) (h1 : 1 ≤ q.k) (hl : q.k ≤ table.length) (hnext : q.k < table.length → q.next.Ok) :
    ∃ t, runTable table s = .next t ∧ t.SeqOk := by
  obtain ⟨work, hw⟩ : ∃ work, stepAt table q.k = some work := by
    obtain ⟨k, hk⟩ := Nat.exists_eq_add_of_le' h1
    rw [hk]
    exact ⟨table[k]'(by omega), List.getElem?_eq_getElem (by omega)⟩
  rw [runTable_of_stepAt hq hw]
  have hseq := ((ht work (mem_of_stepAt hw)).keeps s).seq
  cases hv : work s with
  | endNow u b => exact ⟨_, rfl, State.seqOk_of_cur_none rfl⟩
  | fatal kind u => exact ⟨_, rfl, nofun⟩
  | go u b =>
    by_cases hk : q.k < table.length
    · rw [hv] at hseq
      obtain ⟨r, hr, hid⟩ := State.exists_cur_of_seqIdent_eq hseq hq
      exact ⟨_, result_go_lt hk, State.seqOk_advance hr (Seq.ok_of_ident_eq (Seq.ident_next hid) (hnext hk))⟩
    · exact ⟨_, result_go_last hk, State.seqOk_of_cur_none rfl⟩

/-- A table has as many steps as its instruction takes M-cycles (R131, R133, R374). -/
theorem formTable_length (f : Form) : (formTable f).length = f.mcyclesTaken := by
  cases f <;> rfl

theorem one_le_mcyclesTaken (f : Form) : 1 ≤ f.mcyclesTaken := by
  cases f <;> simp [Form.mcyclesTaken, Form.mcycles]

/-- A 0xCB instruction has a second step and no condition (R133). -/
theorem mcycles_of_prefixed {f : Form} (h : f.prefixed = true) : f.mcyclesTaken = f.mcycles ∧ 2 ≤ f.mcycles := by
  cases f with
  | rotR | rotM | bitR | bitM | resR | resM | setR | setM => exact ⟨rfl, by simp [Form.mcycles]⟩
  | _ => cases h

/-- The instruction in flight has a step after its step `k`. -/
theorem Scratch.stepOk_succ {x : Scratch} {i : Instr} {k : Nat} (hi : x.instr = .instr i) (h1 : 1 ≤ k)
    (hcb : x.cb = true → 2 ≤ k) (hk : k < i.form.mcyclesTaken) : x.StepOk (k + 1) := by
  unfold Scratch.instr at hi
  cases hx : x.cb with
  | true =>
    rw [if_pos hx] at hi
    obtain rfl := Decoded.instr.inj hi
    have hm := (mcycles_of_prefixed (decodeCb_prefixed x.op2)).1
    exact .inr (.inl ⟨hx, by have := hcb hx; omega, by omega⟩)
  | false =>
    rw [if_neg (by simp [hx])] at hi
    exact .inr (.inr ⟨hx, i, hi, by omega, hk⟩)

/-- Performing an existing step of the instruction in flight. -/
theorem exec_seqOk {s : State} {x : Scratch} {i : Instr} {k : Nat} (hq : s.cur = some ⟨.instr x, k⟩)
    (hi : x.instr = .instr i) (h1 : 1 ≤ k) (hcb : x.cb = true → 2 ≤ k) (hk : k ≤ i.form.mcyclesTaken) :
    ∃ t, exec i s = .next t ∧ t.SeqOk := by
  rw [exec_eq_runTable]
  refine runTable_seqOk (formTable_tame _) hq h1 (by rwa [formTable_length]) fun hl => ?_
  rw [formTable_length] at hl
  exact Scratch.stepOk_succ hi h1 hcb hl

/-! ### The sequence an M-cycle performs a step of -/

/-- A sequence at a step it has: between two M-cycles (`Seq.Ok`), or just chosen by the decision (R161 to R164). -/
def Seq.Startable (q : Seq) : Prop :=
  q.Ok ∨ q = ⟨.instr .fresh, 1⟩ ∨ (∃ i, q = ⟨.service (vector i), 1⟩) ∨ q = ⟨.haltWait, 1⟩ ∨ q = ⟨.haltResume, 1⟩

/-- The decision leaves a sequence at a step it has. -/
theorem ready_startable {s : State} (hf : s.fault = none) (h : s.SeqOk) : ∃ q, s.ready.cur = some q ∧ q.Startable := by
  cases hq : s.cur with
  | some q => exact ⟨q, by rw [ready_of_cur hq, State.takeInput_cur, hq], .inl (h hf q hq)⟩
  | none =>
    rw [ready_of_boundary hq]
    obtain ⟨-, -, hs⟩ | ⟨-, -, -, hs⟩ | ⟨-, -, -, hs⟩ | ⟨-, -, hs⟩ := schedule_cases s.takeInput <;> rw [hs]
    · exact ⟨_, rfl, .inr (.inr (.inl ⟨_, rfl⟩))⟩
    · exact ⟨_, rfl, .inr (.inr (.inr (.inr rfl)))⟩
    · exact ⟨_, rfl, .inr (.inr (.inr (.inl rfl)))⟩
    · exact ⟨_, rfl, .inr (.inl rfl)⟩

/-- M1 runs the first step of the fetched instruction, or goes on to M2 after 0xCB (R135, R165). -/
theorem fetchStep_seqOk {s : State} (hq : s.cur = some ⟨.instr .fresh, 1⟩) : ∃ t, fetchStep s = .next t ∧ t.SeqOk := by
  have hcur : s.fetched.cur = some ⟨.instr { Scratch.fresh with op := s.read s.cpu.pc }, 1⟩ := by
    simp [State.fetched, State.incPc_eq, hq, SeqKind.mapScratch]
  cases hd : decodePrimary (s.read s.cpu.pc) with
  | instr i =>
    rw [fetchStep_instr hd]
    exact exec_seqOk hcur hd le_rfl nofun (one_le_mcyclesTaken _)
  | cbPrefix =>
    rw [fetchStep_prefix hd]
    refine ⟨_, rfl, State.seqOk_advance (r := ⟨.instr { Scratch.fresh with op := s.read s.cpu.pc, cb := true }, 1⟩) ?_
      (.inl ⟨rfl, rfl⟩)⟩
    simp [hcur, SeqKind.mapScratch]

/-- M2 after 0xCB runs the second step of the instruction its byte names (R166). -/
theorem cbStep_seqOk {s : State} {x : Scratch} (hq : s.cur = some ⟨.instr x, 2⟩) (hcb : x.cb = true) :
    ∃ t, cbStep s = .next t ∧ t.SeqOk := by
  have hcur : s.fetchedCb.cur = some ⟨.instr { x with op2 := s.read s.cpu.pc }, 2⟩ := by
    simp [State.fetchedCb, State.incPc_eq, hq, SeqKind.mapScratch]
  have hm := mcycles_of_prefixed (decodeCb_prefixed (s.read s.cpu.pc))
  exact exec_seqOk hcur (by simp [Scratch.instr, hcb]) (by omega) (fun _ => le_rfl) (by omega)

/-- Any other step of an instruction is one of the instruction its scratch names. -/
theorem laterStep_seqOk {s : State} {x : Scratch} {k : Nat} (hq : s.cur = some ⟨.instr x, k⟩) (h : x.StepOk k)
    (hn : ¬ (k = 2 ∧ x.cb = true)) : ∃ t, laterStep x s = .next t ∧ t.SeqOk := by
  obtain ⟨hcb, h2⟩ | ⟨hcb, h3, hk⟩ | ⟨hcb, i, hi, h2, hk⟩ := h
  · exact absurd ⟨h2, hcb⟩ hn
  · have hi : x.instr = .instr (decodeCb x.op2) := by simp [Scratch.instr, hcb]
    have hm := mcycles_of_prefixed (decodeCb_prefixed x.op2)
    simp only [laterStep, hi]
    exact exec_seqOk hq hi (by omega) (fun _ => by omega) (by omega)
  · have hi : x.instr = .instr i := by simp [Scratch.instr, hcb, hi]
    simp only [laterStep, hi]
    exact exec_seqOk hq hi (by omega) (by simp [hcb]) hk

/-- Performing the step a sequence is at answers a next state, whose sequence again has a next step (R160). -/
theorem perform_seqOk {s : State} {q : Seq} (hq : s.cur = some q) (h : q.Startable) :
    ∃ t, perform s = .next t ∧ t.SeqOk := by
  simp only [perform, hq]
  obtain h | rfl | ⟨i, rfl⟩ | rfl | rfl := h
  · obtain ⟨kind, k⟩ := q
    cases kind with
    | instr x =>
      have h : x.StepOk k := h
      have h1 : k ≠ 1 := by
        obtain ⟨-, hk⟩ | ⟨-, hk, -⟩ | ⟨-, i, -, hk, -⟩ := h <;> omega
      simp only [if_neg h1]
      by_cases h2 : k = 2 ∧ x.cb = true
      · rw [if_pos h2]
        exact cbStep_seqOk (h2.1 ▸ hq) h2.2
      · rw [if_neg h2]
        exact laterStep_seqOk hq h h2
    | service v =>
      obtain ⟨hv, hl, hu⟩ := h
      exact runTable_seqOk (serviceTable_tame v) hq (one_le_two.trans hl) hu fun hk => ⟨hv, Nat.le_succ_of_le hl, hk⟩
    | haltWait | haltResume => exact h.elim
  · exact fetchStep_seqOk hq
  · exact runTable_seqOk (serviceTable_tame _) hq le_rfl (by simp [serviceTable])
      fun _ => ⟨⟨i, rfl⟩, le_rfl, by simp [Seq.next]⟩
  · exact runTable_seqOk (forall_mem_singleton tame_idle) hq le_rfl le_rfl fun hk => absurd hk (lt_irrefl 1)
  · exact runTable_seqOk (forall_mem_singleton tame_idle) hq le_rfl le_rfl fun hk => absurd hk (lt_irrefl 1)

/-- The ticks leave the sequence in flight. -/
theorem State.seqOk_tick {s : State} (h : s.SeqOk) : s.tick.SeqOk := by
  simpa [State.SeqOk] using h

/-- Settles O9: the decision leaves a sequence at a step it has, performing that step answers a state whose sequence has a
next step, and the ticks do not touch the sequence. -/
theorem runningMachineAlwaysSteps : Obligations.RunningMachineAlwaysSteps := by
  intro s hs hf
  obtain ⟨q, hq, hst⟩ := ready_startable hf hs
  obtain ⟨u, hu, hok⟩ := perform_seqOk hq hst
  rw [step_of_running hf, hu]
  exact ⟨_, rfl, of_ite (fun _ => State.seqOk_tick hok) fun _ => hok⟩

end Sys2Proof.Machine
end

section
/-! PROOFS. What a read of each region returns, the boot ROM overlay, and the invariants of memory, of the DMA and of the
timer (10_state.md R44, R48 to R50). -/

namespace Sys2Proof.Machine

/-! ### Reads by region -/

/-- Below 0x8000 lies the cartridge ROM, with the boot ROM over its first page while that is mapped (R72, R74). -/
theorem region_of_le {m : Bool} {a : Word} (h : a.toNat ≤ 0x7FFF) :
    region m a = if m = true ∧ a.toNat ≤ 0xFF then .bootRom else .cartRom := by
  have hne : ∀ b : Word, 0x7FFF < b.toNat → ¬ a = b := by
    rintro b hb rfl
    omega
  have hlt : ∀ n, 0x7FFF < n → ¬ n ≤ a.toNat := by omega
  simp [region, within, hne, hlt, h]

/-- A read under the mapped boot ROM returns its byte (R49, R74). -/
theorem State.read_bootRom {s : State} {a : Word} (hm : s.bootMapped = true) (ha : a.toNat ≤ 0xFF) :
    s.read a = s.boot.read a.toNat := by
  have hr : s.region a = .bootRom := by
    rw [State.region, region_of_le (by omega), if_pos ⟨hm, ha⟩]
  simp only [State.read, hr]

/-- A read below 0x8000 where the boot ROM does not lie over it returns the cartridge ROM's byte (R74, R75). -/
theorem State.read_cartRom {s : State} {a : Word} (ha : a.toNat ≤ 0x7FFF)
    (hm : s.bootMapped = false ∨ 0x100 ≤ a.toNat) : s.read a = s.rom.read a.toNat := by
  have hn : ¬ (s.bootMapped = true ∧ a.toNat ≤ 0xFF) := by
    rintro ⟨hb, hl⟩
    obtain hb' | hl' := hm
    · simp [hb] at hb'
    · omega
  have hr : s.region a = .cartRom := by
    rw [State.region, region_of_le ha, if_neg hn]
  simp only [State.read, hr]

/-- A read of flat RAM returns its byte (R77). -/
theorem State.read_flatRam {s : State} {a : Word} (h : s.region a = .flatRam) : s.read a = s.ram.read a.toNat := by
  simp only [State.read, h]

/-- The port an address of the PPU reaches it through (R450). -/
def ppuPort (a : Word) : PpuPort :=
  if a.toNat ≤ 0x9FFF then .vram else if a.toNat ≤ 0xFE9F then .oam else .register

/-- A read of one of the PPU's addresses is the PPU's (R72, R450). -/
theorem State.read_ppu {s : State} {a : Word} (h : s.ppuOwns a = true) : s.read a = s.ppu.read (ppuPort a) a := by
  have hh := region_holds s.bootMapped a
  rw [← State.region] at hh
  cases hr : s.region a with
  | vram =>
    simp only [hr, Region.Holds, within, Bool.and_eq_true, decide_eq_true_eq] at hh
    simp only [State.read, hr, ppuPort, if_pos hh.2]
  | oam =>
    simp only [hr, Region.Holds, within, Bool.and_eq_true, decide_eq_true_eq] at hh
    simp only [State.read, hr, ppuPort, if_neg (show ¬ a.toNat ≤ 0x9FFF by omega), if_pos hh.2]
  | ppuRegister =>
    simp only [hr, Region.Holds, within, Bool.or_eq_true, Bool.and_eq_true, decide_eq_true_eq] at hh
    simp only [State.read, hr, ppuPort, if_neg (show ¬ a.toNat ≤ 0x9FFF by omega),
      if_neg (show ¬ a.toNat ≤ 0xFE9F by omega)]
  | _ => simp [State.ppuOwns, hr] at h

/-! ### The overlay -/

/-- The unmap register is there with the overlay and without it (R72). -/
theorem State.region_unmap (s : State) : s.region 0xFF50 = .unmap := by
  unfold State.region
  cases s.bootMapped <;> rfl

/-- A write of any value to the unmap register clears the overlay (R49, R74). -/
theorem State.write_unmap (s : State) (v : Byte) : s.write 0xFF50 v = { s with bootMapped := false } := by
  simp only [State.write, s.region_unmap]

/-- Only the write to 0xFF50 changes the overlay (R49, R74). -/
theorem State.write_bootMapped_eq (s : State) (a : Word) (v : Byte) :
    (s.write a v).bootMapped = if a = 0xFF50 then false else s.bootMapped := by
  by_cases ha : a = 0xFF50
  · subst ha
    rw [State.write_unmap, if_pos rfl]
  · rw [if_neg ha]
    cases hr : s.region a with
    | unmap => exact absurd (eq_of_region_unmap hr) ha
    | _ => simp [State.write, hr]

/-- Settles O22: only a bus write can touch the overlay, and the one to 0xFF50 clears it. -/
theorem overlayNeverReturns : Obligations.OverlayNeverReturns := by
  refine ⟨fun s a => State.read_bootRom, State.write_bootMapped_eq, fun s t h hs => ?_⟩
  exact step_keeps (P := fun u => u.bootMapped = false) (fun u hu => by rwa [ready_frame])
    (fun u a v => u.write_bootMapped a v) (fun u hu => by rwa [State.tick_bootMapped]) (fun _ _ _ _ _ _ hu => hu) hs h

/-! ### The canonical form of memory -/

theorem Ppu.Canonical.write {p : Ppu} (h : p.Canonical) (port : PpuPort) (a : Word) (v : Byte) :
    (p.write port a v).Canonical := by
  unfold Ppu.write
  split
  · exact Memory.wf_write v h a.isLt
  · exact h

theorem Ppu.Canonical.tick {p : Ppu} (h : p.Canonical) : p.tick.Canonical := by
  unfold Ppu.tick
  split <;> exact h

/-- The PPU the host may put in is canonical (R175, R453). -/
theorem State.Canonical.takeInput {s : State} (h : s.Canonical) : s.takeInput.Canonical := by
  obtain ⟨hram, hrom, hboot, hppu, hin⟩ := h
  unfold State.takeInput
  split
  · exact ⟨hram, hrom, hboot, hppu, hin⟩
  · rename_i x xs hxs
    rw [hxs] at hin
    refine ⟨hram, hrom, hboot, ?_, fun y hy => hin y (List.mem_cons_of_mem x hy)⟩
    show (x.ppu.getD s.ppu).Canonical
    cases hx : x.ppu with
    | none => exact hppu
    | some p => exact hin x List.mem_cons_self p hx

theorem State.Canonical.ready {s : State} (h : s.Canonical) : s.ready.Canonical := by
  obtain ⟨hram, hrom, hboot, hppu, hin⟩ := h.takeInput
  rw [State.takeInput_ram] at hram
  rw [State.takeInput_rom] at hrom
  rw [State.takeInput_boot] at hboot
  rw [State.takeInput_inputs] at hin
  rw [ready_frame]
  exact ⟨hram, hrom, hboot, hppu, hin⟩

/-- A bus write keeps the canonical form: it writes one byte of one array at most (R72). -/
theorem State.Canonical.write {s : State} (h : s.Canonical) (a : Word) (v : Byte) : (s.write a v).Canonical := by
  obtain ⟨hram, hrom, hboot, hppu, hin⟩ := h
  cases hr : s.region a with
  | flatRam =>
    rw [s.write_flatRam a v hr]
    exact ⟨Memory.wf_write v hram a.isLt, hrom, hboot, hppu, hin⟩
  | ppuRegister | vram | oam =>
    simp only [State.write, hr]
    exact ⟨hram, hrom, hboot, hppu.write _ _ _, hin⟩
  | _ =>
    simp only [State.write, hr]
    exact ⟨hram, hrom, hboot, hppu, hin⟩

/-- The ticks write memory only through the DMA's copy to OAM and the PPU's own tick (R443, R451). -/
theorem State.Canonical.tick {s : State} (h : s.Canonical) : s.tick.Canonical := by
  obtain ⟨hram, hrom, hboot, hppu, hin⟩ := h
  have hd : s.dmaTick.ppu.Canonical := by
    unfold State.dmaTick State.dmaCopy
    split
    · exact hppu
    · exact hppu
    · exact hppu
    · exact hppu.write _ _ _
  rw [State.tick_frame]
  exact ⟨hram, hrom, hboot, hd.tick, hin⟩

/-- Settles O23: the host's input, a bus write and the ticks each keep the canonical form. -/
theorem memoryStaysCanonical : Obligations.MemoryStaysCanonical := fun _ _ hs h =>
  step_keeps (fun _ hu => hu.ready) (fun _ a v hu => hu.write a v) (fun _ hu => hu.tick) (fun _ _ _ _ _ _ hu => hu) hs h

/-! ### The DMA -/

/-- What a bus write can do to the DMA controller: a write to its register, or nothing (R72). -/
theorem State.write_dma_cases (s : State) (a : Word) (v : Byte) :
    (s.write a v).dma = s.dma ∨ (s.write a v).dma = s.dma.writeReg v := by
  cases hr : s.region a with
  | dmaReg => exact .inr (by simp [State.write, hr])
  | _ => exact .inl (by simp [State.write, hr])

theorem State.dmaOk_of_dma_eq {s t : State} (h : t.dma = s.dma) (hs : s.DmaOk) : t.DmaOk := by
  rwa [State.DmaOk, h]

/-- A write that starts a transfer takes a page and no progress; any other keeps both (R442). -/
theorem State.DmaOk.write {s : State} (h : s.DmaOk) (a : Word) (v : Byte) : (s.write a v).DmaOk := by
  obtain hd | hd := s.write_dma_cases a v
  · exact State.dmaOk_of_dma_eq hd h
  · rw [State.DmaOk, hd]
    unfold Dma.writeReg Dma.start
    split
    · exact h
    · exact ⟨lo_cat v 0, Nat.zero_le _, nofun, fun _ => rfl⟩

/-- A DMA tick moves the status on, or the progress by one up to 160 (R443). -/
theorem State.DmaOk.dmaTick {s : State} (h : s.DmaOk) : s.dmaTick.DmaOk := by
  obtain ⟨hsrc, hle, hlt, hzero⟩ := h
  unfold State.dmaTick
  split
  · exact ⟨hsrc, hle, hlt, hzero⟩
  · rename_i hs
    exact ⟨hsrc, hle, nofun, fun _ => hzero (.inl hs)⟩
  · rename_i hs
    have h0 : s.dma.progress = 0 := hzero (.inr hs)
    exact ⟨hsrc, hle, fun _ => by simp [h0], by simp⟩
  · rename_i hs
    have hl := hlt hs
    have hn : (s.dma.progress + 1).toNat = s.dma.progress.toNat + 1 := BitVec.toNat_add_of_lt (by simp; omega)
    by_cases h160 : s.dma.progress + 1 = 160
    · simp only [State.DmaOk, State.dmaCopy, if_pos h160]
      exact ⟨hsrc, by omega, nofun, by simp⟩
    · have hne : (s.dma.progress + 1).toNat ≠ 160 := fun he => h160 (BitVec.eq_of_toNat_eq he)
      simp only [State.DmaOk, State.dmaCopy, if_neg h160]
      exact ⟨hsrc, by omega, fun _ => by omega, by simp⟩

/-- Every step keeps the DMA's progress in range (R48). -/
theorem step_dmaOk {s t : State} (hs : s.DmaOk) (h : step s = .next t) : t.DmaOk :=
  step_keeps (P := State.DmaOk) (fun u hu => by rwa [ready_frame]) (fun _ a v hu => hu.write a v)
    (fun u hu => State.dmaOk_of_dma_eq u.tick_dma hu.dmaTick) (fun _ _ _ _ _ _ hu => hu) hs h

/-! ### The timer's latches -/

/-- What a bus write can do to the timer: a write to one of its four registers, or nothing (R72). -/
theorem State.write_timer_cases (s : State) (a : Word) (v : Byte) :
    (s.write a v).timer = s.timer ∨ (s.write a v).timer = s.timer.writeDiv ∨
      (s.write a v).timer = s.timer.writeTima v ∨ (s.write a v).timer = s.timer.writeTma v ∨
      (s.write a v).timer = s.timer.writeTac v := by
  cases hr : s.region a with
  | div => exact .inr (.inl (by simp [State.write, hr]))
  | tima => exact .inr (.inr (.inl (by simp [State.write, hr])))
  | tma => exact .inr (.inr (.inr (.inl (by simp [State.write, hr]))))
  | tac => exact .inr (.inr (.inr (.inr (by simp [State.write, hr]))))
  | _ => exact .inl (by simp [State.write, hr])

/-- The timer inside an M-cycle: an overflow by a bus write, for which no reload is due yet, has left TIMA 0 and the signal
low, so that the tick that follows counts no edge. -/
def Timer.OverflowFresh (t : Timer) : Prop :=
  t.reloadDue = false → t.reloadPending = true → t.tima = 0 ∧ t.sig = false

/-- What an edge does: nothing, or with the signal now low one increment, whose overflow leaves TIMA 0 (R46, R431). -/
theorem Timer.edge_cases (t : Timer) (old : Bool) :
    t.edge old = t ∨ (old = true ∧ t.sig = false ∧
      (t.edge old = { t with tima := 0, reloadPending := true } ∨ t.edge old = { t with tima := t.tima + 1 })) := by
  unfold Timer.edge Timer.incTima
  split
  · rename_i h
    simp only [Bool.and_eq_true, Bool.not_eq_true'] at h
    refine .inr ⟨h.1, h.2, ?_⟩
    split
    · exact .inl rfl
    · exact .inr rfl
  · exact .inl rfl

theorem Timer.overflowFresh_of_not_pending {t : Timer} (h : t.reloadDue = false → t.reloadPending = false) :
    t.OverflowFresh := fun hd hp => by simp [h hd] at hp

theorem Timer.overflowFresh_edge {t : Timer} (h : t.reloadDue = false → t.reloadPending = false) (old : Bool) :
    (t.edge old).OverflowFresh := by
  obtain he | ⟨-, hsig, he | he⟩ := t.edge_cases old <;> rw [he]
  · exact Timer.overflowFresh_of_not_pending h
  · exact fun _ _ => ⟨rfl, hsig⟩
  · exact Timer.overflowFresh_of_not_pending h

/-- An edge after which a reload is pending leaves TIMA 0 (R431). -/
theorem Timer.edge_tima_of_pending {t : Timer} {old : Bool} (h : t.reloadPending = true → t.tima = 0 ∧ old = false)
    (hp : (t.edge old).reloadPending = true) : (t.edge old).tima = 0 := by
  obtain he | ⟨hold, -, he | he⟩ := t.edge_cases old <;> rw [he] at hp ⊢
  · exact (h hp).1
  · simp [(h hp).2] at hold

theorem State.TimerOk.overflowFresh {s : State} (h : s.TimerOk) : s.timer.OverflowFresh :=
  Timer.overflowFresh_of_not_pending fun hd => h.1 ▸ hd

/-- A bus write leaves no overflow but a fresh one (R433, R434, R436). -/
theorem State.TimerOk.write {s : State} (h : s.TimerOk) (a : Word) (v : Byte) : (s.write a v).timer.OverflowFresh := by
  have hp : s.timer.reloadDue = false → s.timer.reloadPending = false := fun hd => h.1 ▸ hd
  obtain ht | ht | ht | ht | ht := s.write_timer_cases a v <;> rw [ht]
  · exact h.overflowFresh
  · exact Timer.overflowFresh_edge (t := { s.timer with div := 0 }) hp _
  · unfold Timer.writeTima
    split
    · exact h.overflowFresh
    · exact Timer.overflowFresh_of_not_pending hp
  · exact Timer.overflowFresh_of_not_pending hp
  · exact Timer.overflowFresh_edge (t := { s.timer with tac := v.extractLsb' 0 3 }) hp _

/-- The tick brings the latches to agreement, with TIMA 0 if a reload is pending (R432, R436). -/
theorem State.timerOk_tick {s : State} (h : s.timer.OverflowFresh) : s.tick.TimerOk := by
  rw [State.TimerOk, State.tick_timer]
  refine ⟨rfl, Timer.edge_tima_of_pending fun hp => ?_⟩
  unfold Timer.reload at hp ⊢
  cases hd : s.timer.reloadDue with
  | true => simp [hd] at hp
  | false =>
    rw [hd] at hp
    exact h hd hp

/-- Every step restores the timer's invariant, which only holds in the weaker form `OverflowFresh` between a bus write and
the tick (R432, R436). -/
theorem step_timerOk {s t : State} (hs : s.TimerOk) (h : step s = .next t) : t.TimerOk := by
  have hr : s.ready.TimerOk := by rwa [ready_frame]
  obtain ⟨u, hu, rfl⟩ | ⟨kind, ht⟩ := step_outside h
  · apply State.timerOk_tick
    rw [hu]
    show (s.ready.afterBus s.ready.bus).timer.OverflowFresh
    unfold State.afterBus
    split
    · exact hr.write _ _
    · exact hr.overflowFresh
    · exact hr.overflowFresh
  · rw [ht]
    exact hr

/-- Settles O60, device by device. -/
theorem deviceInvariantsKept : Obligations.DeviceInvariantsKept := ⟨fun _ _ => step_timerOk, fun _ _ => step_dmaOk⟩

end Sys2Proof.Machine
end

section
/-! PROOFS. Register writes, register pairs, reads by region and the launch (10_state.md R31, R41, R42, R54). -/

namespace Sys2Proof.Machine

/-- A batch of writes is its one-byte writes in order (R80), the bytes numbered from any `n`. -/
theorem State.writeBytes_eq_foldl (s : State) (a : Word) (bs : List Byte) (n : Nat) :
    s.writeBytes (a + BitVec.ofNat 16 n) bs =
      (bs.zipIdx n).foldl (fun u x => u.write (a + BitVec.ofNat 16 x.2) x.1) s := by
  induction bs generalizing s n with
  | nil => rfl
  | cons v vs ih =>
    rw [List.zipIdx_cons, List.foldl_cons, ← ih, State.writeBytes, BitVec.add_assoc, BitVec.ofNat_add]
    rfl

/-- Settles O20: the regions of the registers are fixed, the unmap register's under the overlay too; a batch by induction on
its bytes. -/
theorem deviceRegisterWrites : Obligations.DeviceRegisterWrites := by
  intro s v
  refine ⟨rfl, rfl, s.write_unmap v, rfl, rfl, ?_, rfl, fun a bs => ?_⟩
  · show (s.dma.writeReg v).reg = v
    unfold Dma.writeReg Dma.start
    split <;> rfl
  · simpa using s.writeBytes_eq_foldl a bs 0

/-- The number of an appended bit vector. -/
theorem toNat_append_add {m n : Nat} (x : BitVec m) (y : BitVec n) : (x ++ y).toNat = 2 ^ n * x.toNat + y.toNat := by
  rw [BitVec.toNat_append, ← Nat.shiftLeft_add_eq_or_of_lt y.isLt, Nat.shiftLeft_eq, Nat.mul_comm]

/-- A word is 256 times its high byte plus its low byte (R31). -/
theorem cat_toNat (h l : Byte) : (cat h l).toNat = 256 * h.toNat + l.toNat := toNat_append_add h l

/-- Settles O14: a pair is `cat` of its registers. -/
theorem pairsAreSharedStorage : Obligations.PairsAreSharedStorage := fun _ v _ =>
  ⟨cat_toNat .., cat_toNat .., cat_toNat .., cat_toNat .., rfl, rfl, rfl, cat_hi_lo v, cat_hi_lo v, cat_hi_lo v,
    rfl, rfl, rfl, rfl, rfl, rfl, rfl⟩

/-- Settles O17, region by region. -/
theorem busReads : Obligations.BusReads := by
  intro s a
  refine ⟨?_, rfl, rfl, ?_, ?_, rfl, rfl, ?_, fun ha hm => State.read_bootRom hm ha,
    fun ha hm => State.read_cartRom (by omega) (.inl hm), fun hl hu => State.read_cartRom hu (.inr hl),
    State.read_flatRam, fun ho hm => ?_, fun ho hm => ?_, rfl⟩
  · show (hi s.timer.div).toNat = _
    rw [hi, BitVec.extractLsb'_toNat, Nat.shiftRight_eq_div_pow]
    omega
  · exact toNat_append_add 0b11111#5 s.timer.tac
  · exact toNat_append_add 0b111#3 s.iflag
  · simp only [State.read, s.region_unmap]
  · rw [State.read_ppu ho, Ppu.read, hm]
  · rw [State.read_ppu ho, Ppu.read, hm]
    rfl

/-- Settles O11: the launch lists the values; the two halves of F are the open flags and 0. -/
theorem launchValues : Obligations.LaunchValues := by
  refine ⟨fun p => ?_, fun p => ⟨rfl, rfl, rfl, rfl, rfl, rfl, rfl, rfl⟩⟩
  have hhi : ∀ x : BitVec 4, (x ++ 0#4).extractLsb' 4 4 = x := by decide
  have hlo : ∀ x : BitVec 4, (x ++ 0#4).extractLsb' 0 4 = 0 := by decide
  exact ⟨rfl, rfl, rfl, rfl, rfl, rfl, rfl, hhi p.flags, hlo p.flags, rfl, rfl, rfl, rfl, rfl, rfl, rfl, rfl, rfl, rfl,
    rfl, rfl, rfl, rfl, rfl, rfl⟩

/-- Every launch with canonical images meets the invariants (R54). -/
theorem launch_invariants {p : Launch} (hboot : p.bootRom.wf 256 = true) (hrom : p.cartRom.wf 32768 = true)
    (hram : p.ramInit.wf 65536 = true) (hppu : p.ppu.Canonical)
    (hin : ∀ x ∈ p.inputs, ∀ q, x.ppu = some q → q.Canonical) :
    let s := State.launch p
    s.FlagsLow ∧ s.Canonical ∧ s.TimerOk ∧ s.DmaOk ∧ s.SeqOk ∧ s.Running :=
  ⟨launch_flagsLow p, ⟨hram, hrom, hboot, hppu, hin⟩, ⟨rfl, nofun⟩, ⟨rfl, Nat.zero_le _, nofun, fun _ => rfl⟩,
    State.seqOk_of_cur_none rfl, rfl⟩

/-- Settles O13: `State.reset` is the launch with empty images. -/
theorem launchMeetsInvariants : Obligations.LaunchMeetsInvariants :=
  ⟨fun _ => launch_invariants, launch_invariants rfl rfl rfl rfl nofun⟩

end Sys2Proof.Machine
end

section
/-! PROOFS. The rate of the timer (R45, R437). -/

namespace Sys2Proof.Machine

/-- The ticks between two TIMA increments (R437). -/
def timaPeriod (tac : BitVec 3) : Nat :=
  if tac.toNat % 4 = 0 then 256 else if tac.toNat % 4 = 1 then 4 else if tac.toNat % 4 = 2 then 16 else 64

/-- The divider bit and the period of each selection (R45, R437). -/
theorem selBit_timaPeriod_cases (tac : BitVec 3) :
    (selBit tac = 9 ∧ timaPeriod tac = 256) ∨ (selBit tac = 3 ∧ timaPeriod tac = 4) ∨
      (selBit tac = 5 ∧ timaPeriod tac = 16) ∨ (selBit tac = 7 ∧ timaPeriod tac = 64) := by
  revert tac
  decide

/-- After `n` ticks from a divider of 0 the selected divider bit is set in the second half of a period. -/
theorem getLsbD_selBit_four_mul (tac : BitVec 3) (n : Nat) :
    (BitVec.ofNat 16 (4 * n)).getLsbD (selBit tac) = decide (timaPeriod tac ≤ 2 * (n % timaPeriod tac)) := by
  rw [BitVec.getLsbD_ofNat, Nat.testBit_eq_decide_div_mod_eq]
  obtain ⟨hs, hp⟩ | ⟨hs, hp⟩ | ⟨hs, hp⟩ | ⟨hs, hp⟩ := selBit_timaPeriod_cases tac
  all_goals
    rw [hs, hp]
    simp only [Nat.reduceLT, decide_true, Bool.true_and, decide_eq_decide, Nat.reducePow]
    omega

/-- The falling edge of a tick's divider step (R432): the signal before it, and the signal after it. -/
def Timer.falls (t : Timer) : Bool := t.sig && !Timer.sig { t with div := t.div + 4 }

/-- The signal falls in the ticks that complete a period. -/
theorem Timer.falls_iff {t : Timer} {n : Nat} (ht : t.tac[2] = true) (hd : t.div = BitVec.ofNat 16 (4 * n)) :
    t.falls = true ↔ timaPeriod t.tac ∣ n + 1 := by
  have hd' : t.div + 4 = BitVec.ofNat 16 (4 * (n + 1)) := by
    rw [hd, Nat.mul_succ, BitVec.ofNat_add]
    rfl
  have hf : t.falls = (timerSig (BitVec.ofNat 16 (4 * n)) t.tac && !timerSig (BitVec.ofNat 16 (4 * (n + 1))) t.tac) := by
    rw [← hd', ← hd]
    rfl
  simp only [hf, timerSig, ht, Bool.true_and, getLsbD_selBit_four_mul, Bool.and_eq_true, Bool.not_eq_true',
    decide_eq_true_eq, decide_eq_false_iff_not]
  obtain ⟨-, hp⟩ | ⟨-, hp⟩ | ⟨-, hp⟩ | ⟨-, hp⟩ := selBit_timaPeriod_cases t.tac
  all_goals
    rw [hp]
    omega

/-- A tick with no reload pending and no overflow: the divider moves on, and TIMA counts the falling edge (R431, R432). -/
theorem Timer.tick_of_not_pending {t : Timer} (hp : t.reloadPending = false) (hd : t.reloadDue = false)
    (h : t.falls = true → t.tima ≠ 0xFF) :
    t.tick = { t with div := t.div + 4, tima := if t.falls then t.tima + 1 else t.tima } := by
  have hr : t.reload = t := by simp [Timer.reload, hd]
  have he : Timer.edge { t with div := t.div + 4 } t.sig =
      { t with div := t.div + 4, tima := if t.falls then t.tima + 1 else t.tima } := by
    show (if t.falls = true then Timer.incTima { t with div := t.div + 4 } else { t with div := t.div + 4 }) = _
    by_cases hf : t.falls = true
    · simp only [hf, if_true, Timer.incTima, if_neg (h hf)]
    · simp [hf]
  simp only [Timer.tick, hr, he]
  rw [hp, hd]

/-- The timer `n` ticks after `t`, whose divider is 0, while TIMA has not overflowed (R437). -/
def Timer.afterTicks (t : Timer) (n : Nat) : Timer :=
  { t with div := BitVec.ofNat 16 (4 * n), tima := t.tima + BitVec.ofNat 8 (n / timaPeriod t.tac) }

theorem Timer.afterTicks_tima_toNat {t : Timer} {n : Nat} (h : t.tima.toNat + n / timaPeriod t.tac ≤ 255) :
    (t.afterTicks n).tima.toNat = t.tima.toNat + n / timaPeriod t.tac := by
  simp only [Timer.afterTicks, BitVec.toNat_add, BitVec.toNat_ofNat]
  rw [Nat.mod_eq_of_lt (a := n / timaPeriod t.tac) (by omega), Nat.mod_eq_of_lt (by omega)]

/-- TIMA counts one more where a period ends. -/
theorem Timer.afterTicks_succ (t : Timer) (n : Nat) :
    t.afterTicks (n + 1) =
      { t.afterTicks n with
        div := (t.afterTicks n).div + 4
        tima := if timaPeriod t.tac ∣ n + 1 then (t.afterTicks n).tima + 1 else (t.afterTicks n).tima } := by
  simp only [Timer.afterTicks, Nat.mul_succ, BitVec.ofNat_add, Nat.succ_div]
  split
  · simp [BitVec.add_assoc]
  · simp

/-- The ticks of an enabled timer up to its overflow, by induction on their number. -/
theorem Timer.iterate_tick {t : Timer} (h0 : t.div = 0) (ht : t.tac[2] = true) (hp : t.reloadPending = false)
    (hd : t.reloadDue = false) {n : Nat} (h : t.tima.toNat + n / timaPeriod t.tac ≤ 255) :
    Timer.tick^[n] t = t.afterTicks n := by
  induction n with
  | zero =>
    simp only [Timer.afterTicks, Nat.mul_zero, Nat.zero_div, show BitVec.ofNat 16 0 = t.div from h0.symm]
    simp
  | succ n ih =>
    have hf : (t.afterTicks n).falls = true ↔ timaPeriod t.tac ∣ n + 1 := Timer.falls_iff ht rfl
    rw [Nat.succ_div] at h
    have hn : t.tima.toNat + n / timaPeriod t.tac ≤ 255 := by omega
    have htima := Timer.afterTicks_tima_toNat hn
    rw [Function.iterate_succ_apply', ih hn, Timer.tick_of_not_pending (t := t.afterTicks n) hp hd, t.afterTicks_succ]
    · simp only [hf]
    · intro hfalls hff
      rw [if_pos (hf.mp hfalls)] at h
      rw [hff, show (0xFF : Byte).toNat = 255 from rfl] at htima
      omega

/-- Settles O57: the closed form `afterTicks` of the ticks up to the overflow. -/
theorem timerRate : Obligations.TimerRate := by
  intro t n h0 ht hp hd m h
  rw [Timer.iterate_tick h0 ht hp hd h]
  exact ⟨Timer.afterTicks_tima_toNat h, by simp [Timer.afterTicks], hp⟩

end Sys2Proof.Machine
end

section
/-! PROOFS. The region of every address, the flat RAM and the cartridge ROM (20_memory.md R72 to R75, R77). -/

namespace Sys2Proof.Machine

/-! ### The cartridge ROM -/

/-- A write below 0x8000 does nothing, with the boot ROM over the first page or without (R74, R75). -/
theorem State.write_of_le (s : State) {a : Word} (v : Byte) (ha : a.toNat ≤ 0x7FFF) : s.write a v = s := by
  refine s.write_romRegion a v ?_
  rw [State.region, region_of_le ha]
  exact of_ite (P := fun r : Region => r = .cartRom ∨ r = .bootRom) (fun _ => .inr rfl) fun _ => .inl rfl

/-- No step changes a ROM image: neither the host's input and the decision, nor a bus write, nor the ticks do (R75, R79). -/
theorem step_images {s t : State} (h : step s = .next t) : t.rom = s.rom ∧ t.boot = s.boot :=
  step_keeps (P := fun u => u.rom = s.rom ∧ u.boot = s.boot) (fun u hu => by rwa [ready_frame])
    (fun u a v hu => by rwa [State.write_rom, State.write_boot]) (fun u hu => by rwa [State.tick_rom, State.tick_boot])
    (fun _ _ _ _ _ _ hu => hu) ⟨rfl, rfl⟩ h

/-- Settles O19: the addresses below 0x8000 are the ROM images', which a bus write drops and no part of a step changes. -/
theorem romNeverChanges : Obligations.RomNeverChanges :=
  ⟨fun _ _ => State.read_cartRom, fun s _ v => s.write_of_le v, fun _ _ => step_images⟩

/-! ### The flat RAM -/

/-- Settles O18: the write changes the one byte of the RAM array, which no other address is read from. -/
theorem flatRamKeepsBytes : Obligations.FlatRamKeepsBytes := by
  intro s a v hc hr
  have hw := s.write_flatRam a v hr
  refine ⟨State.read_flatRam hr, State.read_write_same v hc (by simp [State.keeps, hr]), fun b hb => ?_, by rw [hw],
    hc.write a v⟩
  have hn : a.toNat ≠ b.toNat := fun he => hb (BitVec.eq_of_toNat_eq he.symm)
  rw [hw]
  exact State.read_congr (hf := fun _ => Memory.read_write_other _ _ hn)

/-! ### The region of every address -/

theorem within_iff {a : Word} {first last : Nat} :
    within a first last = true ↔ first ≤ a.toNat ∧ a.toNat ≤ last := by
  simp [within]

/-- The seven stretches of the flat RAM (R73). -/
theorem flatRam_ranges {m : Bool} {a : Word} (h : region m a = .flatRam) :
    (0xA000 ≤ a.toNat ∧ a.toNat ≤ 0xFDFF) ∨ (0xFEA0 ≤ a.toNat ∧ a.toNat ≤ 0xFEFF) ∨
    (0xFF01 ≤ a.toNat ∧ a.toNat ≤ 0xFF03) ∨ (0xFF08 ≤ a.toNat ∧ a.toNat ≤ 0xFF0E) ∨
    (0xFF10 ≤ a.toNat ∧ a.toNat ≤ 0xFF3F) ∨ (0xFF4C ≤ a.toNat ∧ a.toNat ≤ 0xFF4F) ∨
    (0xFF51 ≤ a.toNat ∧ a.toNat ≤ 0xFFFE) := by
  unfold region at h
  iterate 14 obtain ⟨_, h⟩ := (ite_eq_iff.mp h).resolve_left nofun
  simp only [Bool.or_eq_true, Bool.and_eq_true, within_iff] at *
  bv_omega

/-- Settles O16: below 0x8000 by `region_of_le`, above it region by region. -/
theorem addressRanges : Obligations.AddressRanges := by
  intro boot a
  dsimp only
  by_cases ha : a.toNat ≤ 0x7FFF
  · rw [region_of_le ha]
    by_cases hl : a.toNat ≤ 0xFF <;> simp [ha, hl]
  · have hh := region_holds boot a
    cases hr : region boot a with
    | bootRom | cartRom =>
      simp only [hr, Region.Holds, Bool.and_eq_true, within_iff] at hh
      omega
    | ppuRegister =>
      simp only [hr, Region.Holds, Bool.or_eq_true, within_iff] at hh
      obtain hh | hh := hh <;> simp (disch := omega) only [if_pos, if_neg]
    | vram | oam =>
      simp only [hr, Region.Holds, within_iff] at hh
      simp (disch := omega) only [if_pos, if_neg]
    | flatRam =>
      obtain hh | hh | hh | hh | hh | hh | hh := flatRam_ranges hr <;> simp (disch := omega) only [if_pos, if_neg]
    | div | tima | tma | tac | intFlag | intEnable | dmaReg | joypad | unmap =>
      rw [hr] at hh
      cases hh
      rfl

end Sys2Proof.Machine
end

section
/-! PROOFS. The decoder and the encoder are inverse to each other (30_encoding.md R120 to R137). -/

namespace Sys2Proof

/-! ### One opcode byte -/

/-- The input of the decoder that an answer names: the byte the encoder's fields give it (R130, R132), and whether it
stands after 0xCB. -/
def Decoded.input : Decoded → Byte × Bool
  | .instr i => (i.form.opByte, i.form.prefixed)
  | .cbPrefix => (0xCB, false)

/-- Every entry of the grids of R131 and R133 against the fields of R130 and R132. -/
theorem decodeByte_input : ∀ (b : Byte) (p : Bool), (decodeByte b p).input = (b, p) := by
  decide

/-- What the decoder answers and the input it answers it for determine each other (R137). -/
theorem decodeByte_eq_iff {b : Byte} {p : Bool} {d : Decoded} : decodeByte b p = d ↔ d.input = (b, p) := by
  constructor
  · rintro rfl
    exact decodeByte_input b p
  · intro h
    cases d with
    | cbPrefix =>
      cases h
      rfl
    | instr i =>
      cases h
      have hd := i.decode_opByte
      unfold decodeByte
      split at hd
      · rename_i hp
        rw [if_pos hp, hd]
      · rename_i hp
        rw [if_neg hp, hd]

theorem decodeByte_eq_instr_iff {b : Byte} {p : Bool} {i : Instr} :
    decodeByte b p = .instr i ↔ i.form.opByte = b ∧ i.form.prefixed = p :=
  decodeByte_eq_iff.trans Prod.mk_inj

theorem decodeByte_eq_cbPrefix_iff {b : Byte} {p : Bool} : decodeByte b p = .cbPrefix ↔ b = 0xCB ∧ p = false := by
  rw [decodeByte_eq_iff, Decoded.input, Prod.mk_inj, eq_comm, eq_comm (a := false)]

theorem decodePrimary_eq_instr_iff {b : Byte} {i : Instr} :
    decodePrimary b = .instr i ↔ i.form.opByte = b ∧ i.form.prefixed = false :=
  decodeByte_eq_instr_iff (p := false)

theorem decodePrimary_eq_cbPrefix_iff {b : Byte} : decodePrimary b = .cbPrefix ↔ b = 0xCB := by
  simpa [decodeByte] using decodeByte_eq_cbPrefix_iff (b := b) (p := false)

theorem decodeCb_eq_iff {b : Byte} {i : Instr} :
    decodeCb b = i ↔ i.form.opByte = b ∧ i.form.prefixed = true := by
  rw [← decodeByte_eq_instr_iff]
  simp [decodeByte]

/-- Every instruction's kind is one of the table's (R134). -/
theorem Instr.form_wellFormed (i : Instr) : i.form.wellFormed = true := by
  cases i <;> rfl

theorem mem_illegalBytes_of_form {i : Instr} {op : Byte} (h : i.form = .illegal op) : op ∈ illegalBytes := by
  have hw := i.form_wellFormed
  rw [h] at hw
  exact List.contains_iff_mem.mp hw

/-- Settles O4: an instruction's operation kind gives back the input it was decoded from. -/
theorem decoderTotalAndInjective : Obligations.DecoderTotalAndInjective := by
  refine ⟨fun b p => ⟨decodeByte_eq_cbPrefix_iff, ?_, ?_⟩, fun b b' p p' i h h' => ?_⟩
  · rintro ⟨i, op, hd, hf⟩
    obtain ⟨rfl, rfl⟩ := decodeByte_eq_instr_iff.mp hd
    rw [hf]
    exact ⟨rfl, mem_illegalBytes_of_form hf⟩
  · rintro ⟨rfl, hb⟩
    obtain ⟨i, hi, hf⟩ := decodePrimary_opByte (.illegal b) rfl (List.contains_iff_mem.mpr hb)
    exact ⟨i, b, hi, hf⟩
  · obtain ⟨rfl, rfl⟩ := decodeByte_eq_instr_iff.mp h
    obtain ⟨rfl, rfl⟩ := decodeByte_eq_instr_iff.mp h'
    exact ⟨rfl, rfl⟩

/-! ### Byte strings -/

/-- The operand bytes and what is left over are the byte string, cut where the opcode says (R121). -/
theorem decodeOperands_eq_ok_iff {i : Instr} {bs : List Byte} {x : Insn} {rest : List Byte} :
    decodeOperands i bs = .ok x rest ↔ x.instr = i ∧ x.wellFormed = true ∧ x.operands ++ rest = bs := by
  obtain ⟨j, ops⟩ := x
  simp only [Insn.wellFormed, beq_iff_eq]
  constructor
  · intro h
    unfold decodeOperands at h
    split at h
    · cases h
    · cases h
      exact ⟨rfl, List.length_take_of_le (by omega), List.take_append_drop _ _⟩
  · rintro ⟨rfl, hw, rfl⟩
    rw [decodeOperands, if_neg (by simp [hw]), ← hw, List.take_left, List.drop_left]

theorem Form.opcode_of_prefixed {f : Form} (h : f.prefixed = true) : f.opcode = [0xCB, f.opByte] := if_pos h

theorem Form.opcode_of_not_prefixed {f : Form} (h : f.prefixed = false) : f.opcode = [f.opByte] := if_neg (by simp [h])

theorem decodeBytes_of_instr {op : Byte} {i : Instr} (h : decodePrimary op = .instr i) (bs : List Byte) :
    decodeBytes (op :: bs) = decodeOperands i bs := by
  simp [decodeBytes, h]

theorem decodeBytes_of_cbPrefix (op2 : Byte) (bs : List Byte) :
    decodeBytes (0xCB :: op2 :: bs) = decodeOperands (decodeCb op2) bs := rfl

/-- The decoder takes an instruction's opcode bytes off (R135). -/
theorem decodeBytes_opcode (i : Instr) (bs : List Byte) : decodeBytes (i.form.opcode ++ bs) = decodeOperands i bs := by
  cases hp : i.form.prefixed with
  | false =>
    rw [Form.opcode_of_not_prefixed hp]
    exact decodeBytes_of_instr (decodePrimary_eq_instr_iff.mpr ⟨rfl, hp⟩) bs
  | true =>
    rw [Form.opcode_of_prefixed hp]
    exact (decodeBytes_of_cbPrefix _ bs).trans (by rw [decodeCb_eq_iff.mpr ⟨rfl, hp⟩])

/-- A byte string that decodes starts with the opcode bytes of an instruction. -/
theorem exists_opcode_of_decodeBytes {bs : List Byte} {x : Insn} {rest : List Byte} (h : decodeBytes bs = .ok x rest) :
    ∃ (i : Instr) (bs' : List Byte), bs = i.form.opcode ++ bs' := by
  cases bs with
  | nil => cases h
  | cons op bs =>
    cases hd : decodePrimary op with
    | instr i =>
      obtain ⟨rfl, hp⟩ := decodePrimary_eq_instr_iff.mp hd
      exact ⟨i, bs, by rw [Form.opcode_of_not_prefixed hp]; rfl⟩
    | cbPrefix =>
      obtain rfl := decodePrimary_eq_cbPrefix_iff.mp hd
      cases bs with
      | nil => cases h
      | cons op2 bs =>
        obtain ⟨hop, hp⟩ := decodeCb_eq_iff.mp (rfl : decodeCb op2 = _)
        exact ⟨decodeCb op2, bs, by rw [Form.opcode_of_prefixed hp, hop]; rfl⟩

/-- Decoding and encoding are the same relation between byte strings and well-formed instructions (R120, R137). -/
theorem decodeBytes_eq_ok_iff {bs : List Byte} {x : Insn} {rest : List Byte} :
    decodeBytes bs = .ok x rest ↔ x.wellFormed = true ∧ encode x ++ rest = bs := by
  constructor
  · intro h
    obtain ⟨i, bs', rfl⟩ := exists_opcode_of_decodeBytes h
    rw [decodeBytes_opcode] at h
    obtain ⟨rfl, hw, rfl⟩ := decodeOperands_eq_ok_iff.mp h
    exact ⟨hw, List.append_assoc ..⟩
  · rintro ⟨hw, rfl⟩
    rw [encode, List.append_assoc, decodeBytes_opcode]
    exact decodeOperands_eq_ok_iff.mpr ⟨rfl, hw, rfl⟩

/-- Settles O2: one direction of `decodeBytes_eq_ok_iff`. -/
theorem encodeThenDecode : Obligations.EncodeThenDecode := fun _ _ hw => decodeBytes_eq_ok_iff.mpr ⟨hw, rfl⟩

/-- Settles O3: the other direction. -/
theorem decodeThenEncode : Obligations.DecodeThenEncode := fun _ _ _ => decodeBytes_eq_ok_iff.mp

/-- Settles O1, by running the decoder on the words. -/
theorem wordsDecode : Obligations.WordsDecode := by
  unfold Obligations.WordsDecode
  decide

/-! ### Lengths -/

theorem Form.operandBytes_le (f : Form) : f.operandBytes ≤ 2 := by
  unfold Form.operandBytes
  split <;> omega

/-- A 0xCB instruction has no operand bytes (R121). -/
theorem Form.operandBytes_of_prefixed {f : Form} (h : f.prefixed = true) : f.operandBytes = 0 := by
  cases f with
  | rotR | rotM | bitR | bitM | resR | resM | setR | setM => rfl
  | _ => cases h

/-- The length of an instruction, from what its first byte decodes to (R120, R121, R135). -/
def Decoded.insnBytes : Decoded → Nat
  | .instr i => 1 + i.operandBytes
  | .cbPrefix => 2

theorem Decoded.insnBytes_bounds (d : Decoded) : 1 ≤ d.insnBytes ∧ d.insnBytes ≤ 3 := by
  cases d with
  | instr i =>
    have := i.form.operandBytes_le
    simp only [Decoded.insnBytes, Instr.operandBytes]
    omega
  | cbPrefix => simp [Decoded.insnBytes]

/-- An encoding has a first byte, and the length that byte fixes. -/
theorem encode_head_length {x : Insn} (hw : x.wellFormed = true) :
    ∃ b, (encode x).head? = some b ∧ (encode x).length = (decodePrimary b).insnBytes := by
  have hl : x.operands.length = x.instr.form.operandBytes := beq_iff_eq.mp hw
  unfold encode
  cases hp : x.instr.form.prefixed with
  | true =>
    rw [Form.operandBytes_of_prefixed hp] at hl
    rw [Form.opcode_of_prefixed hp]
    exact ⟨0xCB, rfl, by rw [List.length_append, hl]; rfl⟩
  | false =>
    rw [Form.opcode_of_not_prefixed hp]
    refine ⟨_, rfl, ?_⟩
    rw [decodePrimary_eq_instr_iff.mpr ⟨rfl, hp⟩, List.length_append, hl]
    rfl

/-- Settles O5: the length is `insnBytes` of what the first byte decodes to. -/
theorem lengthFromFirstByte : Obligations.LengthFromFirstByte := by
  intro x y hx hy
  obtain ⟨b, hb, hlen⟩ := encode_head_length hx
  obtain ⟨b', hb', hlen'⟩ := encode_head_length hy
  obtain ⟨h1, h3⟩ := (decodePrimary b).insnBytes_bounds
  rw [hb, hb', hlen, hlen']
  refine ⟨h1, h3, fun h => ?_, fun h => ?_⟩
  · cases h
    rfl
  · cases h
    rfl

end Sys2Proof
end

section
/-! PROOFS. How many steps a sequence has (30_encoding.md R131, R133; 46_control.md R374). -/

namespace Sys2Proof.Machine

/-! ### How each step of a table ends -/

/-- A step after which the sequence goes on, or ends if it was the last step (R160). -/
structure GoesOn (work : Action) : Prop where
  go : ∀ s, ∃ u b, work s = .go u b := by exact fun _ => ⟨_, _, rfl⟩

/-- A step that ends the sequence if the condition fails (R169, R170). -/
def DecidesOn (cc : Cond) (work : Action) : Prop := ∀ s, ∃ u b, work s = if s.cpu.cond cc then .go u b else .endNow u b

/-- A condition is read from the flags alone (R360). -/
theorem Cpu.cond_congr {p q : Cpu} (h : p.f = q.f) (cc : Cond) : p.cond cc = q.cond cc := by
  cases cc <;> simp only [Cpu.cond, Cpu.zf, Cpu.cf, h]

theorem decideCond_of_f {cc : Cond} {s u : State} (h : u.cpu.f = s.cpu.f) (b : Option BusAccess) :
    ∃ v, decideCond cc u b = if s.cpu.cond cc then .go v b else .endNow v b := by
  rw [← Cpu.cond_congr h]
  refine ⟨u.setTaken (u.cpu.cond cc), ?_⟩
  unfold decideCond
  split <;> simp [*]

theorem decidesOn_decideStep (cc : Cond) : DecidesOn cc (decideStep cc) := fun s =>
  have ⟨v, hv⟩ := decideCond_of_f (s := s) rfl none
  ⟨v, none, hv⟩

theorem decidesOn_decideRead {cc : Cond} {g : State → Byte → State} (hg : ∀ s v, (g s v).cpu.f = s.cpu.f) :
    DecidesOn cc (decideRead cc g) := fun s =>
  have ⟨v, hv⟩ := decideCond_of_f (s := s) (hg s.incPc (s.read s.cpu.pc)) _
  ⟨v, _, hv⟩

/-- Every step of an instruction that neither decides nor can meet a fatal condition, by the number of its steps. -/
theorem formTable_goesOn {f : Form} (hc : f.cond = none) (hf : ¬ CanFault f) : ∀ work ∈ formTable f, GoesOn work := by
  cases f with
  | ldRR | aluR | incR | decR | daa | cpl | scf | ccf | rlca | rrca | rla | rra | jpHl | nop | di | ei =>
    exact forall_mem_singleton {}
  | ldRN | ldRM | ldMR | ldABc | ldADe | ldBcA | ldDeA | ldhAC | ldhCA | ldAHld | ldHldA | ldAHli | ldHliA | ldSpHl
  | aluM | aluN | incRp | decRp | addHl | rotR | bitR | resR | setR =>
    exact forall_mem_cons {} (forall_mem_singleton {})
  | ldMN | ldhAN | ldhNA | ldRpNn | pop | ldHlSpE | incM | decM | bitM | jrE =>
    exact forall_mem_cons {} (forall_mem_cons {} (forall_mem_singleton {}))
  | ldANn | ldNnA | push | addSpE | rotM | resM | setM | jpNn | ret | rst | reti =>
    exact forall_mem_cons {} (forall_mem_cons {} (forall_mem_cons {} (forall_mem_singleton {})))
  | ldNnSp =>
    exact forall_mem_cons {} (forall_mem_cons {} (forall_mem_cons {} (forall_mem_cons {} (forall_mem_singleton {}))))
  | callNn =>
    exact forall_mem_cons {} (forall_mem_cons {} (forall_mem_cons {} (forall_mem_cons {} (forall_mem_cons {}
      (forall_mem_singleton {})))))
  | jrCc | jpCc | callCc | retCc => cases hc
  | halt => exact absurd (.inr (.inl rfl)) hf
  | stop => exact absurd (.inl rfl) hf
  | illegal op => exact absurd (.inr (.inr ⟨op, rfl⟩)) hf

/-- A conditional instruction decides at the last step of its untaken count, and every other step goes on (R169). -/
theorem formTable_decides {f : Form} {cc : Cond} (hc : f.cond = some cc) :
    ∃ before decision after, formTable f = before ++ decision :: after ∧ before.length + 1 = f.mcycles ∧
      DecidesOn cc decision ∧ (∀ work ∈ before, GoesOn work) ∧ ∀ work ∈ after, GoesOn work := by
  cases f with
  | jrCc =>
    cases hc
    exact ⟨[_], _, [_], rfl, rfl, decidesOn_decideRead fun _ _ => rfl, forall_mem_singleton {}, forall_mem_singleton {}⟩
  | jpCc =>
    cases hc
    exact ⟨[_, _], _, [_], rfl, rfl, decidesOn_decideRead fun _ _ => rfl,
      forall_mem_cons {} (forall_mem_singleton {}), forall_mem_singleton {}⟩
  | callCc =>
    cases hc
    exact ⟨[_, _], _, [_, _, _], rfl, rfl, decidesOn_decideRead fun _ _ => rfl,
      forall_mem_cons {} (forall_mem_singleton {}), forall_mem_cons {} (forall_mem_cons {} (forall_mem_singleton {}))⟩
  | retCc =>
    cases hc
    exact ⟨[_], _, [_, _, _], rfl, rfl, decidesOn_decideStep _, forall_mem_singleton {},
      forall_mem_cons {} (forall_mem_cons {} (forall_mem_singleton {}))⟩
  | _ => cases hc

/-- No step of a conditional instruction writes a flag (R372). -/
theorem formTable_keeps_f {f : Form} {cc : Cond} (hc : f.cond = some cc) :
    ∀ work ∈ formTable f, ∀ s, (work s).state.cpu.f = s.cpu.f := by
  cases f with
  | jrCc cc =>
    exact forall_mem_cons (fun _ => rfl) (forall_mem_cons (fun s => by rw [decideRead_state]; rfl)
      (forall_mem_singleton fun _ => rfl))
  | jpCc cc =>
    exact forall_mem_cons (fun _ => rfl) (forall_mem_cons (fun _ => rfl) (forall_mem_cons
      (fun s => by rw [decideRead_state]; rfl) (forall_mem_singleton fun _ => rfl)))
  | callCc cc =>
    exact forall_mem_cons (fun _ => rfl) (forall_mem_cons (fun _ => rfl) (forall_mem_cons
      (fun s => by rw [decideRead_state]; rfl) (forall_mem_cons (fun _ => rfl) (forall_mem_cons
        (fun s => by simp [pushB, State.decSp_eq])
        (forall_mem_singleton fun s => by simp [pushC, State.jumpHiLo, State.setPc_eq])))))
  | retCc cc =>
    exact forall_mem_cons (fun _ => rfl) (forall_mem_cons (fun s => by rw [decideStep, decideCond_state]; rfl)
      (forall_mem_cons (fun _ => rfl) (forall_mem_cons (fun _ => rfl) (forall_mem_singleton fun _ => rfl))))
  | _ => cases hc

/-- A step of a table cut in two is the one at the cut or a step of one of the parts. -/
theorem stepAt_append_cons {before after : List Action} {d work : Action} {k : Nat}
    (h : stepAt (before ++ d :: after) k = some work) :
    (k = before.length + 1 ∧ work = d) ∨ (k ≠ before.length + 1 ∧ (work ∈ before ∨ work ∈ after)) := by
  obtain _ | j := k
  · cases h
  obtain hj | rfl | hj := Nat.lt_trichotomy j before.length
  · have h : (before ++ d :: after)[j]? = some work := h
    rw [List.getElem?_append_left hj] at h
    exact .inr ⟨by omega, .inl (List.mem_of_getElem? h)⟩
  · exact .inl ⟨rfl, by simpa [stepAt, eq_comm] using h⟩
  · obtain ⟨n, rfl⟩ := Nat.exists_eq_add_of_lt hj
    have h : (before ++ d :: after)[before.length + n + 1]? = some work := h
    rw [List.getElem?_append_right (by omega), show before.length + n + 1 - before.length = n + 1 by omega] at h
    exact .inr ⟨by omega, .inr (List.mem_of_getElem? h)⟩

/-- The instruction is conditional and its condition fails. -/
def untaken (f : Form) (p : Cpu) : Bool := f.cond.any fun cc => !p.cond cc

/-- No step of the kind meets a fatal condition in the state (R391 to R394). -/
def FaultFree (f : Form) (s : State) : Prop := ¬ CanFault f ∨ (f = .halt ∧ s.haltBug = false)

/-- How a step of a table ends: it goes on, unless it is the decision of a condition that fails (R169, R170). -/
theorem stepAt_flow {f : Form} {k : Nat} {work : Action} {s : State} (hw : stepAt (formTable f) k = some work)
    (hf : FaultFree f s) :
    ∃ u b, work s = if untaken f s.cpu ∧ k = f.mcycles then .endNow u b else .go u b := by
  obtain hf | ⟨rfl, hb⟩ := hf
  · cases hc : f.cond with
    | none => simpa [untaken, hc] using (formTable_goesOn hc hf work (mem_of_stepAt hw)).go s
    | some cc =>
      obtain ⟨before, d, after, ht, hl, hd, hbefore, hafter⟩ := formTable_decides hc
      rw [ht] at hw
      obtain ⟨hk, rfl⟩ | ⟨hk, hmem⟩ := stepAt_append_cons hw
      · obtain ⟨u, b, hu⟩ := hd s
        refine ⟨u, b, hu.trans ?_⟩
        cases hcc : s.cpu.cond cc <;> simp [untaken, hc, hk, hl, hcc]
      · have hgo : GoesOn work := hmem.elim (hbefore work) (hafter work)
        simpa [← hl, hk] using hgo.go s
  · obtain rfl : work = _ := List.mem_singleton.mp (mem_of_stepAt hw)
    exact ⟨{ s with halted := true }, none, by simp [untaken, Form.cond, hb]⟩

/-! ### The run of a sequence -/

theorem mcyclesTaken_of_cond_none {f : Form} (h : f.cond = none) : f.mcyclesTaken = f.mcycles := by
  cases f with
  | jrCc | jpCc | callCc | retCc => cases h
  | _ => rfl

theorem mcycles_bounds (f : Form) : 1 ≤ f.mcycles ∧ f.mcycles ≤ f.mcyclesTaken := by
  cases f <;> simp [Form.mcyclesTaken, Form.mcycles]

/-- The M-cycles an instruction takes from a register file: the taken count if it is conditional and its condition holds
(R374). -/
def stepCount (f : Form) (p : Cpu) : Nat :=
  match f.cond with
  | none => f.mcycles
  | some cc => if p.cond cc then f.mcyclesTaken else f.mcycles

/-- Unless it is cut short, an instruction takes all the steps of its table. -/
theorem stepCount_eq_ite (f : Form) (p : Cpu) : stepCount f p = if untaken f p then f.mcycles else f.mcyclesTaken := by
  unfold stepCount untaken
  cases hc : f.cond with
  | none => simp [mcyclesTaken_of_cond_none hc]
  | some cc => cases hcc : p.cond cc <;> simp [hcc]

theorem stepCount_bounds (f : Form) (p : Cpu) : 1 ≤ stepCount f p ∧ stepCount f p ≤ f.mcyclesTaken := by
  have := mcycles_bounds f
  rw [stepCount_eq_ite]
  split <;> omega

/-- No step of an instruction changes how many steps it takes. -/
theorem stepCount_work {f : Form} {work : Action} (hw : work ∈ formTable f) (s : State) :
    stepCount f (work s).state.cpu = stepCount f s.cpu := by
  unfold stepCount
  cases hc : f.cond with
  | none => rfl
  | some cc => simp only [Cpu.cond_congr (formTable_keeps_f hc work hw s)]

/-- A step's work on an instruction in flight leaves it in flight. -/
theorem cur_work {f : Form} {work : Action} (hw : work ∈ formTable f) {s : State} {x : Scratch} {k : Nat}
    (hq : s.cur = some ⟨.instr x, k⟩) : ∃ y, (work s).state.cur = some ⟨.instr y, k⟩ := by
  obtain ⟨⟨kind, j⟩, hr, hid⟩ := State.exists_cur_of_seqIdent_eq ((formTable_tame f work hw).keeps s).seq hq
  obtain ⟨hkind, rfl⟩ := Seq.mk.inj hid
  cases kind with
  | instr y => exact ⟨y, hr⟩
  | service | haltWait | haltResume => cases hkind

/-- A table has every step up to its length. -/
theorem exists_stepAt {table : List Action} {k : Nat} (h1 : 1 ≤ k) (hk : k ≤ table.length) :
    ∃ work, stepAt table k = some work := by
  obtain ⟨j, rfl⟩ := Nat.exists_eq_add_of_le' h1
  exact ⟨table[j]'hk, List.getElem?_eq_getElem hk⟩

/-- The instruction is in flight at step `k` of the `n` it takes, and no step of it meets a fatal condition. -/
structure AtStep (i : Instr) (n k : Nat) (s : State) : Prop where
  pos : 1 ≤ k
  cur : ∃ x, s.cur = some ⟨.instr x, k⟩
  count : stepCount i.form s.cpu = n
  faultFree : FaultFree i.form s

/-- HALT, the one kind whose fatal condition depends on the state, has one step. -/
theorem not_canFault_of_lt {f : Form} {s : State} {k : Nat} (h : FaultFree f s) (h1 : 1 ≤ k) (hk : k < f.mcyclesTaken) :
    ¬ CanFault f := by
  obtain h | ⟨rfl, -⟩ := h
  · exact h
  · exact absurd hk (not_lt.mpr h1)

/-- A step before the last one: the instruction is at its next step. -/
theorem AtStep.exec_lt {i : Instr} {n k : Nat} {s : State} (h : AtStep i n k s) (hk : k < n) :
    ∃ t, exec i s = .next t ∧ AtStep i n (k + 1) t := by
  obtain ⟨h1, ⟨x, hq⟩, rfl, hf⟩ := h
  have hlen := (stepCount_bounds i.form s.cpu).2
  rw [← formTable_length] at hlen
  have hl : k < (formTable i.form).length := by omega
  obtain ⟨work, hw⟩ := exists_stepAt h1 hl.le
  have hmem := mem_of_stepAt hw
  obtain ⟨u, b, hu⟩ := stepAt_flow hw hf
  have hgo : ¬ (untaken i.form s.cpu = true ∧ k = i.form.mcycles) := by
    rintro ⟨hut, rfl⟩
    rw [stepCount_eq_ite, if_pos hut] at hk
    exact lt_irrefl _ hk
  rw [if_neg hgo] at hu
  obtain ⟨y, hy⟩ := cur_work hmem hq
  have hcount := stepCount_work hmem s
  rw [hu] at hy hcount
  rw [exec_of_form rfl hq hw, hu, result_go_lt hl]
  have hy : u.cur = some ⟨.instr y, k⟩ := hy
  exact ⟨_, rfl, by omega, ⟨y, by rw [State.advance_cur, hy]; rfl⟩, hcount,
    .inl (not_canFault_of_lt hf h1 (formTable_length _ ▸ hl))⟩

/-- The last step ends the sequence. -/
theorem AtStep.exec_last {i : Instr} {n : Nat} {s : State} (h : AtStep i n n s) :
    ∃ t, exec i s = .next t ∧ t.cur = none := by
  obtain ⟨h1, ⟨x, hq⟩, hn, hf⟩ := h
  obtain ⟨work, hw⟩ := exists_stepAt h1 (by rw [formTable_length, ← hn]; exact (stepCount_bounds ..).2)
  obtain ⟨u, b, hu⟩ := stepAt_flow hw hf
  rw [exec_of_form rfl hq hw, hu]
  cases hut : untaken i.form s.cpu with
  | true =>
    have hk : n = i.form.mcycles := by rw [← hn, stepCount_eq_ite, if_pos hut]
    rw [if_pos ⟨rfl, hk⟩]
    exact ⟨_, rfl, rfl⟩
  | false =>
    have hk : n = (formTable i.form).length := by rw [← hn, stepCount_eq_ite, if_neg (by simp [hut]), formTable_length]
    rw [if_neg nofun]
    exact ⟨_, result_go_last hk.not_lt, rfl⟩

/-- The last of `m + 1` steps, after the others. -/
theorem execSteps_succ {i : Instr} {m : Nat} {s t : State} (h : execSteps i m s = .next t) :
    execSteps i (m + 1) s = exec i t := by
  induction m generalizing s with
  | zero =>
    cases h
    cases he : exec i t <;> simp only [execSteps, he]
  | succ m ih =>
    unfold execSteps at h ⊢
    cases he : exec i s with
    | next u =>
      rw [he] at h
      exact ih h
    | fault r | refused r =>
      rw [he] at h
      cases h

/-- After `m` of `n` steps the instruction is at step `m + 1`. -/
theorem AtStep.execSteps_lt {i : Instr} {n : Nat} {s : State} (h : AtStep i n 1 s) {m : Nat} (hm : m < n) :
    ∃ t, execSteps i m s = .next t ∧ AtStep i n (m + 1) t := by
  induction m with
  | zero => exact ⟨s, rfl, h⟩
  | succ m ih =>
    obtain ⟨t, ht, hat⟩ := ih (by omega)
    rw [execSteps_succ ht]
    exact hat.exec_lt hm

theorem AtStep.execSteps_eq {i : Instr} {n : Nat} {s : State} (h : AtStep i n 1 s) :
    ∃ t, execSteps i n s = .next t ∧ t.cur = none := by
  obtain ⟨m, rfl⟩ := Nat.exists_eq_add_of_le' (h.count ▸ (stepCount_bounds i.form s.cpu).1)
  obtain ⟨t, ht, hat⟩ := h.execSteps_lt (Nat.lt_succ_self m)
  rw [execSteps_succ ht]
  exact hat.exec_last

/-- The hypotheses of `SequenceLengths` leave no step that meets a fatal condition. -/
theorem faultFree_of_ne {i : Instr} {s : State} (hstop : i ≠ .stop) (hill : ∀ op, i.form ≠ .illegal op)
    (hhalt : i = .halt → s.ime = .enabled ∨ pending s = 0) : FaultFree i.form s := by
  by_cases hh : i.form = .halt
  · refine .inr ⟨hh, ?_⟩
    obtain h | h := hhalt (Instr.eq_of_form rfl hh)
    · simp [State.haltBug, h]
    · simp [State.haltBug, show s.pend = 0 from h]
  · refine .inl ?_
    rintro (h | h | ⟨op, h⟩)
    · exact hstop (Instr.eq_of_form rfl h)
    · exact hh h
    · exact hill op h

/-- Settles O10: every step before the last leaves the instruction in flight at the next one, by induction on their number,
and the last step ends it. -/
theorem sequenceLengths : Obligations.SequenceLengths := by
  intro i s x hq hstop hill hhalt n
  have h : AtStep i n 1 s := ⟨le_rfl, ⟨x, hq⟩, rfl, faultFree_of_ne hstop hill hhalt⟩
  refine ⟨h.execSteps_eq, fun m hm => ?_⟩
  obtain ⟨t, ht, -, ⟨y, hy⟩, -⟩ := h.execSteps_lt hm
  exact ⟨t, y, ht, hy⟩

end Sys2Proof.Machine
end
section
/-! PROOFS. The engine: the host's input, the decision, the step of each kind of sequence and the service sequence
(40_engine_sequencer.md R160 to R175). -/

namespace Sys2Proof.Machine

/-! ### The host's input -/

theorem State.takeInput_of_cons {s : State} {x : HostInput} {xs : List HostInput} (h : s.inputs = x :: xs) :
    s.takeInput = State.applyInput { s with inputs := xs } x := by
  simp only [State.takeInput, h]

/-- Settles O54: the input sets the joypad's bit or no bit. -/
theorem hostInputAtBoundary : Obligations.HostInputAtBoundary := by
  intro s
  refine ⟨s.takeInput_of_nil, fun x xs hx => ?_⟩
  rw [State.takeInput_of_cons hx]
  cases hb : x.joypadIrq with
  | true => simp [State.applyInput, State.request, joypadBit, hb]
  | false => simp [State.applyInput, State.request, hb]

/-! ### The step an M-cycle performs -/

/-- A step at a boundary performs the sequence just chosen (R160, R161). -/
theorem step_of_boundary {s : State} (hf : s.fault = none) (hc : s.cur = none) :
    step s = TicksAfter (perform s.takeInput.schedule) := by
  rw [step_of_running hf, ready_of_boundary hc]

/-- A step of a sequence in flight goes on with it (R160). -/
theorem step_of_cur {s : State} {q : Seq} (hf : s.fault = none) (hq : s.cur = some q) :
    step s = TicksAfter (perform s.takeInput) := by
  rw [step_of_running hf, ready_of_cur hq]

section perform

variable {s : State} {x : Scratch} {v : Word} {k : Nat}

theorem perform_of_instr (hq : s.cur = some ⟨.instr x, k⟩) :
    perform s = if k = 1 then fetchStep s else if k = 2 ∧ x.cb then cbStep s else laterStep x s := by
  simp only [perform, hq]

/-- M1 is the fetch step (R165). -/
theorem perform_first (hq : s.cur = some ⟨.instr x, 1⟩) : perform s = fetchStep s := by
  rw [perform_of_instr hq, if_pos rfl]

/-- M2 after a prefix is the CB step (R166). -/
theorem perform_second_of_cb (hq : s.cur = some ⟨.instr x, 2⟩) (hcb : x.cb = true) : perform s = cbStep s := by
  rw [perform_of_instr hq, if_neg (by omega), if_pos ⟨rfl, hcb⟩]

/-- Every other step is one of the instruction whose opcode bytes the scratch holds (R51). -/
theorem perform_later {i : Instr} (hq : s.cur = some ⟨.instr x, k⟩) (h1 : k ≠ 1) (h2 : ¬ (k = 2 ∧ x.cb = true))
    (hi : x.instr = .instr i) : perform s = exec i s := by
  rw [perform_of_instr hq, if_neg h1, if_neg h2, laterStep, hi]

/-- A step of the service sequence is its table's work and then its end (R422). -/
theorem perform_service {work : Action} (hq : s.cur = some ⟨.service v, k⟩) (hw : stepAt (serviceTable v) k = some work) :
    perform s = (work s).result k 5 := by
  simp only [perform, hq]
  exact runTable_of_stepAt hq hw

end perform

theorem Scratch.instr_of_cb {x : Scratch} (h : x.cb = true) : x.instr = .instr (decodeCb x.op2) := if_pos h

theorem Scratch.instr_of_not_cb {x : Scratch} (h : x.cb = false) : x.instr = decodePrimary x.op := if_neg (by simp [h])

/-- The fetch of the second opcode byte moves PC and records the byte (R166). -/
theorem State.fetchedCb_eq {s : State} {x : Scratch} {k : Nat} (hq : s.cur = some ⟨.instr x, k⟩) :
    s.fetchedCb =
      { s with
        cpu := { s.cpu with pc := s.cpu.pc + 1 }
        cur := some ⟨.instr { x with op2 := s.read s.cpu.pc }, k⟩ } := by
  simp [State.fetchedCb, State.incPc_eq, State.setCpu, State.mapScratch, SeqKind.mapScratch, hq]

/-- Settles O7: M2 after a prefix is the CB step; any other step is one of the instruction the scratch names. -/
theorem stepContinuesInstruction : Obligations.StepContinuesInstruction := by
  intro s x k hf hq hk r op2
  have hr : r.cur = some ⟨.instr x, k⟩ := s.takeInput_cur.trans hq
  have h1 : k ≠ 1 := by omega
  rw [step_of_cur hf hq]
  refine ⟨?_, fun hcb hk2 => ?_, fun hcb i hi => ?_⟩
  · rintro hcb rfl
    rw [perform_second_of_cb hr hcb, cbStep, State.fetchedCb_eq hr]
  · rw [perform_later hr h1 (fun h => hk2 h.1) (Scratch.instr_of_cb hcb)]
  · rw [perform_later hr h1 (by simp [hcb]) ((Scratch.instr_of_not_cb hcb).trans hi)]

/-! ### The fetch -/

/-- The first byte of a byte string that decodes to an unprefixed instruction is that instruction's opcode (R121). -/
theorem decodePrimary_of_decodeBytes {op : Byte} {bs rest : List Byte} {x : Insn}
    (h : decodeBytes (op :: bs) = .ok x rest) (hp : x.instr.form.prefixed = false) :
    decodePrimary op = .instr x.instr := by
  obtain ⟨-, he⟩ := decodeBytes_eq_ok_iff.mp h
  rw [encode, Form.opcode_of_not_prefixed hp] at he
  exact decodePrimary_eq_instr_iff.mpr ⟨(List.cons.inj he).1, hp⟩

/-- Settles O6: the decision is to fetch, and M1 runs the first step of what the byte at PC decodes to. -/
theorem stepRunsFetchedInstruction : Obligations.StepRunsFetchedInstruction := by
  intro s hf hc hh hn r op at1
  have hfetch : r.schedule = { r with cur := some ⟨.instr .fresh, 1⟩ } :=
    schedule_fetch (by rwa [s.takeInput_ime]) (s.takeInput_halted.trans hh)
  rw [step_of_boundary hf hc, hfetch, perform_first rfl]
  have hinstr : ∀ i, decodePrimary op = .instr i →
      TicksAfter (fetchStep { r with cur := some ⟨.instr .fresh, 1⟩ }) = TicksAfter (exec i at1) := fun i hi =>
    congrArg TicksAfter (fetchStep_instr hi)
  exact ⟨hinstr, fun x rest hd hp => hinstr _ (decodePrimary_of_decodeBytes hd hp),
    fun hcb => congrArg TicksAfter (fetchStep_prefix hcb)⟩

/-! ### The decision -/

/-- The interrupt taken is the pending one with no pending one below it (R423). -/
theorem lowestBit_eq : ∀ {p : BitVec 5} {i : Fin 5}, p[i] = true → (∀ j : Fin 5, j < i → p[j] = false) →
    lowestBit p = i := by
  decide

/-- A set with a member is not empty. -/
theorem ne_zero_of_getElem {p : BitVec 5} {i : Fin 5} (h : p[i] = true) : p ≠ 0 := by
  rintro rfl
  simp at h

/-- The decision to take an interrupt (R161, R420). -/
theorem schedule_dispatch {s : State} (he : s.ime = .enabled) (hp : s.pend ≠ 0) :
    s.schedule = s.dispatch (lowestBit s.pend) := if_pos ⟨he, hp⟩

/-- The decision of a halted machine with no interrupt to take (R163). -/
theorem schedule_halted {s : State} (hn : ¬ (s.ime = .enabled ∧ s.pend ≠ 0)) (hh : s.halted = true) :
    s.schedule =
      if s.pend = 0 then { s with cur := some ⟨.haltWait, 1⟩ }
      else { s with halted := false, cur := some ⟨.haltResume, 1⟩ } := by
  rw [State.schedule, if_neg hn, if_pos hh, ite_not]

/-- Settles O51, branch by branch of the decision. -/
theorem schedulingDecision : Obligations.SchedulingDecision := by
  intro s
  refine ⟨fun he i hi hlow => ?_, fun hn hh => ?_, fun hn hh => ?_, step_of_boundary⟩
  · have hp : s.pend ≠ 0 := ne_zero_of_getElem hi
    have hl : lowestBit s.pend = i := lowestBit_eq hi hlow
    rw [schedule_dispatch he hp, hl]
    rfl
  · exact schedule_halted (fun ⟨he, hp⟩ => hn.elim (· he) hp) hh
  · exact schedule_fetch (fun ⟨he, hp⟩ => hn.elim (· he) hp) hh

/-! ### The service sequence and the halted sequences -/

section service

variable {s : State} {v : Word} {k : Nat}

/-- An internal step of the service sequence only moves it on (R422). -/
theorem perform_service_idle (hq : s.cur = some ⟨.service v, k⟩) (hw : stepAt (serviceTable v) k = some idle)
    (hk : k < 5) : perform s = .next { s with cur := some ⟨.service v, k + 1⟩ } := by
  rw [perform_service hq hw, idle, result_go_lt hk, State.advance, hq]
  rfl

/-- A push step of the service sequence stores its byte at SP - 1 and leaves SP there (R422). -/
theorem perform_service_push (val : State → Byte) (hq : s.cur = some ⟨.service v, k⟩)
    (hw : stepAt (serviceTable v) k = some fun u => writes State.atSp val (g := fun _ t => t) u.decSp) (hk : k < 5) :
    ∃ t, perform s = .next t ∧ Stores s t (s.cpu.sp - 1) (val s.decSp) ∧
      t.cpu = { s.cpu with sp := s.cpu.sp - 1 } ∧ t.cur = some ⟨.service v, k + 1⟩ := by
  rw [perform_service hq hw, writes, result_go_lt hk]
  refine ⟨_, rfl, ?_, ?_, ?_⟩
  · rw [State.decSp_eq, State.write_setCpu]
    exact Stores.of_write ..
  · simp [State.decSp_eq]
  · simp [State.decSp_eq, hq]

/-- The last step of the service sequence jumps (R422). -/
theorem perform_service_jump (hq : s.cur = some ⟨.service v, 5⟩) :
    perform s = .next { s with cpu := { s.cpu with pc := v }, cur := none } :=
  perform_service (work := act fun s => s.setPc v) hq rfl

/-- The one step of a halted sequence only ends it (R163). -/
theorem perform_halted_ends (hq : s.cur = some ⟨.haltWait, 1⟩ ∨ s.cur = some ⟨.haltResume, 1⟩) :
    perform s = .next { s with cur := none } := by
  obtain hq | hq := hq <;>
  · simp only [perform, hq]
    exact runTable_of_stepAt (work := idle) hq rfl

end service

/-- Settles O52, step by step of the tables. -/
theorem serviceSequence : Obligations.ServiceSequence := by
  refine ⟨fun _ _ => step_of_cur, fun _ => perform_halted_ends, fun s v => ⟨?_, ?_, ?_, ?_, perform_service_jump⟩⟩
  · exact fun hq => perform_service_idle hq rfl (by omega)
  · exact fun hq => perform_service_idle hq rfl (by omega)
  · exact fun hq => perform_service_push (fun u => hi u.cpu.pc) hq rfl (by omega)
  · exact fun hq => perform_service_push (fun u => lo u.cpu.pc) hq rfl (by omega)

end Sys2Proof.Machine
end

section
/-! PROOFS. The 8-bit loads and stores, step by step of their tables (41_load8.md R200 to R219). -/

namespace Sys2Proof.Machine

/-! ### The step kinds of the loads and stores -/

section kinds

variable {i : Instr} {f : Form} {k : Nat}

/-- A first step that is only the fetch before it (R165). -/
theorem Idles.first {work : Action} {rest : List Action} (hf : i.form = f) (ht : formTable f = idle :: work :: rest) :
    Idles i 1 :=
  Idles.of_form (n := rest.length + 2) hf (by rw [ht]; rfl) (by rw [ht]; rfl) (by omega)

/-- A last step that sets an 8-bit register, in the registers as the read of its operand leaves them (R200 to R202). -/
theorem StepDoes.sets_r8 {dst : R8} {p : State → Cpu} {v : State → Byte} {b : State → Option BusAccess} (hf : i.form = f)
    (hw : stepAt (formTable f) k = some fun s => .go (s.setCpu ((p s).setR8 dst (v s))) (b s))
    (hn : (formTable f).length = k) :
    StepDoes i k fun s _ t => NoStore s t ∧ t.cur = none ∧ SetsR8 (p s) t.cpu dst (v s) :=
  StepDoes.last hf _ hw hn fun _ _ _ => ⟨NoStore.of_eq .., rfl, SetsR8.setR8 ..⟩

/-- A last step that reads a byte into A. A `target` that is the step's address by definition needs no argument. -/
theorem StepDoes.loads_a {addr : State → Word} {target : State → Scratch → Word} (hf : i.form = f)
    (hw : stepAt (formTable f) k = some (reads addr fun s v => s.setR8 .a v)) (hn : (formTable f).length = k)
    (ha : ∀ s x, s.cur = some ⟨.instr x, k⟩ → addr s = target s x := by intros; rfl) :
    StepDoes i k fun s x t => NoStore s t ∧ t.cur = none ∧ t.cpu = { s.cpu with a := s.read (target s x) } :=
  StepDoes.last hf _ hw hn fun s x hq => ⟨NoStore.of_eq .., rfl, by rw [← ha s x hq]; rfl⟩

/-- A last step that reads the byte at HL into A and moves HL (R215, R217). -/
theorem StepDoes.loads_a_moves_hl {d : Word} (hf : i.form = f)
    (hw : stepAt (formTable f) k = some (reads State.atHl fun s v => (s.setR8 .a v).setHl (s.cpu.hl + d)))
    (hn : (formTable f).length = k) :
    StepDoes i k fun s _ t => NoStore s t ∧ t.cur = none ∧
      t.cpu = { s.cpu with a := s.read s.cpu.hl, h := hi (s.cpu.hl + d), l := lo (s.cpu.hl + d) } :=
  StepDoes.last hf _ hw hn fun _ _ _ => ⟨NoStore.of_eq .., rfl, rfl⟩

/-- A last step that stores a byte and does nothing else. A `target` and a `byte` that are the step's by definition need no
argument. -/
theorem StepDoes.stores {addr : State → Word} {val : State → Byte} {target : State → Scratch → Word}
    {byte : State → Scratch → Byte} (hf : i.form = f) (hw : stepAt (formTable f) k = some (writes addr val))
    (hn : (formTable f).length = k) (ha : ∀ s x, s.cur = some ⟨.instr x, k⟩ → addr s = target s x := by intros; rfl)
    (hv : ∀ s x, s.cur = some ⟨.instr x, k⟩ → val s = byte s x := by intros; rfl) :
    StepDoes i k fun s x t => Stores s t (target s x) (byte s x) ∧ t.cpu = s.cpu ∧ t.cur = none :=
  StepDoes.last hf _ hw hn fun s x hq => by
    rw [← ha s x hq, ← hv s x hq]
    exact ⟨Stores.of_write .., s.write_cpu .., rfl⟩

/-- A last step that stores A at HL and moves HL (R216, R218). -/
theorem StepDoes.stores_a_moves_hl {d : Word} (hf : i.form = f)
    (hw : stepAt (formTable f) k = some (writes State.atHl (fun s => s.cpu.a) fun s t => t.setHl (s.cpu.hl + d)))
    (hn : (formTable f).length = k) :
    StepDoes i k fun s _ t => Stores s t s.cpu.hl s.cpu.a ∧ t.cur = none ∧
      t.cpu = { s.cpu with h := hi (s.cpu.hl + d), l := lo (s.cpu.hl + d) } :=
  StepDoes.last hf _ hw hn fun s _ _ =>
    ⟨Stores.of_write .., rfl, by simp [State.setHl_eq, Cpu.setHl, State.atHl]⟩

/-- The address R209 and R210 assemble in the scratch. -/
theorem State.hiLo_of_cur {s : State} {x : Scratch} (h : s.cur = some ⟨.instr x, k⟩) : s.hiLo = cat x.hi x.lo := by
  rw [State.hiLo, State.scratch_of_cur h]

/-- The address R213 and R214 form in page 0xFF. -/
theorem State.pageTmp_of_cur {s : State} {x : Scratch} (h : s.cur = some ⟨.instr x, k⟩) : s.pageTmp = cat 0xFF x.tmp := by
  rw [State.pageTmp, State.scratch_of_cur h]

end kinds

/-! ### The obligations -/

/-- Settles O24, form by form of the tables, which write HL - 1 as HL + (-1). -/
theorem loadRegister : Obligations.LoadRegister := by
  refine ⟨fun dst src => ?_, fun dst => ?_, fun dst => ?_, ?_, ?_, ?_, ?_, ?_, ?_, ?_⟩
  · exact Primary.of_form (.ldRR dst src) rfl rfl rfl fun _ hf => .sets_r8 hf rfl rfl
  · exact Primary.of_form (.ldRN dst) rfl rfl rfl fun _ hf => ⟨.first hf rfl, .sets_r8 hf rfl rfl⟩
  · exact Primary.of_form (.ldRM dst) rfl rfl rfl fun _ hf => ⟨.first hf rfl, .sets_r8 hf rfl rfl⟩
  · exact ⟨.ld_a_mbc, rfl, rfl, .first rfl rfl, .loads_a rfl rfl rfl⟩
  · exact ⟨.ld_a_mde, rfl, rfl, .first rfl rfl, .loads_a rfl rfl rfl⟩
  · exact ⟨.ld_a_mnn, rfl, rfl, .first rfl rfl, .of_form (n := 4) rfl rfl rfl (by omega),
      .of_form (n := 4) rfl rfl rfl (by omega), .loads_a rfl rfl rfl fun _ _ => State.hiLo_of_cur⟩
  · exact ⟨.ldh_a_mc, rfl, rfl, .first rfl rfl, .loads_a rfl rfl rfl⟩
  · exact ⟨.ldh_a_mn, rfl, rfl, .first rfl rfl, .of_form (n := 3) rfl rfl rfl (by omega),
      .loads_a rfl rfl rfl fun _ _ => State.pageTmp_of_cur⟩
  · simp only [BitVec.sub_eq_add_neg]
    exact ⟨.ld_a_mhld, rfl, rfl, .first rfl rfl, .loads_a_moves_hl rfl rfl rfl⟩
  · exact ⟨.ld_a_mhli, rfl, rfl, .first rfl rfl, .loads_a_moves_hl rfl rfl rfl⟩

/-- Settles O25, form by form of the tables, which write HL - 1 as HL + (-1). -/
theorem storeByte : Obligations.StoreByte := by
  refine ⟨fun src => ?_, ?_, ?_, ?_, ?_, ?_, ?_, ?_, ?_⟩
  · exact Primary.of_form (.ldMR src) rfl rfl rfl fun _ hf => ⟨.first hf rfl, .stores hf rfl rfl⟩
  · exact ⟨.ld_mhl_n, rfl, rfl, .first rfl rfl, .of_form (n := 3) rfl rfl rfl (by omega),
      .stores rfl rfl rfl (hv := fun _ _ hq => by rw [State.scratch_of_cur hq])⟩
  · exact ⟨.ld_mbc_a, rfl, rfl, .first rfl rfl, .stores rfl rfl rfl⟩
  · exact ⟨.ld_mde_a, rfl, rfl, .first rfl rfl, .stores rfl rfl rfl⟩
  · exact ⟨.ld_mnn_a, rfl, rfl, .first rfl rfl, .of_form (n := 4) rfl rfl rfl (by omega),
      .of_form (n := 4) rfl rfl rfl (by omega), .stores rfl rfl rfl fun _ _ => State.hiLo_of_cur⟩
  · exact ⟨.ldh_mc_a, rfl, rfl, .first rfl rfl, .stores rfl rfl rfl⟩
  · exact ⟨.ldh_mn_a, rfl, rfl, .first rfl rfl, .of_form (n := 3) rfl rfl rfl (by omega),
      .stores rfl rfl rfl fun _ _ => State.pageTmp_of_cur⟩
  · simp only [BitVec.sub_eq_add_neg]
    exact ⟨.ld_mhld_a, rfl, rfl, .first rfl rfl, .stores_a_moves_hl rfl rfl rfl⟩
  · exact ⟨.ld_mhli_a, rfl, rfl, .first rfl rfl, .stores_a_moves_hl rfl rfl rfl⟩

end Sys2Proof.Machine
end
section
/-! PROOFS. The 16-bit loads and the stack operations, the calls, restarts and returns, step by step of their tables
(42_load16_stack.md R230 to R241, 46_control.md R366 to R370, R373). -/

namespace Sys2Proof.Machine

/-! ### The step kinds of the 16-bit loads and the stack operations -/

section kinds

variable {i : Instr} {f : Form} {k : Nat}

/-- A last step that reads the high byte of an immediate word and sets a pair (R230). -/
theorem StepDoes.loads_rp {d : Rp} (hf : i.form = f)
    (hw : stepAt (formTable f) k = some (operand fun s h => (s.setHi h).setRp d (cat h s.scratch.lo)))
    (hn : (formTable f).length = k) :
    StepDoes i k fun s x t => NoStore s t ∧ t.cur = none ∧
      SetsRp { s.cpu with pc := s.cpu.pc + 1 } t.cpu d (cat (s.read s.cpu.pc) x.lo) :=
  StepDoes.last hf _ hw hn fun s x hq => by
    obtain rfl := State.scratch_of_cur hq
    exact ⟨NoStore.of_eq .., rfl, SetsRp.setRp ..⟩

/-- Step `k` pops the high byte of a word into the pair `d`, over the low byte in the scratch, and is the last (R235,
R236). -/
def PopsRp2 (i : Instr) (k : Nat) (d : Rp2) : Prop :=
  StepDoes i k fun s x t => NoStore s t ∧ t.cur = none ∧
    SetsRp2 { s.cpu with sp := s.cpu.sp + 1 } t.cpu d
      (if d = .af then cat (s.read s.cpu.sp) x.lo &&& 0xFFF0#16 else cat (s.read s.cpu.sp) x.lo)

theorem PopsRp2.of_form {d : Rp2} (hf : i.form = f)
    (hw : stepAt (formTable f) k =
      some (reads State.atSp fun s v => ((s.setHi v).incSp).setRp2 d (cat v s.scratch.lo)))
    (hn : (formTable f).length = k) : PopsRp2 i k d :=
  StepDoes.last hf _ hw hn fun s x hq => by
    obtain rfl := State.scratch_of_cur hq
    exact ⟨NoStore.of_eq .., rfl, SetsRp2.setRp2 ..⟩

/-- A step before the last that stores a byte and does nothing else (R240). -/
theorem StepDoes.stores_goes_on {addr : State → Word} {val : State → Byte} {target : State → Scratch → Word}
    (hf : i.form = f) (hw : stepAt (formTable f) k = some (writes addr val)) {n : Nat} (hn : (formTable f).length = n)
    (hl : k < n) (ha : ∀ s x, s.cur = some ⟨.instr x, k⟩ → addr s = target s x) :
    StepDoes i k fun s x t => Stores s t (target s x) (val s) ∧ t.cpu = s.cpu ∧ t.cur = some ⟨.instr x, k + 1⟩ :=
  StepDoes.of_form hf _ hw fun s x hq => by
    rw [← ha s x hq]
    exact ⟨_, result_go_lt (hn ▸ hl), Stores.of_write .., s.write_cpu .., by simp [hq]⟩

/-- Pc of the push of PC, with the jump of the same step (R366, R373). -/
theorem StepDoes.pushes_pc_jumps {target : State → Word} {dest : Scratch → Word} (hf : i.form = f)
    (hw : stepAt (formTable f) k = some (pushC State.retAddr fun s => s.setPc (target s)))
    (hn : (formTable f).length = k) (ht : ∀ s x, s.cur = some ⟨.instr x, k⟩ → target s = dest x) :
    StepDoes i k fun s x t => Stores s t s.cpu.sp (lo s.cpu.pc) ∧ t.cur = none ∧ t.cpu = { s.cpu with pc := dest x } :=
  StepDoes.last hf _ hw hn fun s x hq => by
    have hcur : (s.write s.cpu.sp (lo s.cpu.pc)).cur = some ⟨.instr x, k⟩ := by rwa [State.write_cur]
    rw [← ht _ x hcur]
    exact ⟨Stores.of_write .., rfl, by simp [State.setPc_eq, State.retAddr]⟩

/-- A last step that jumps to the word in the scratch (R368 to R370). -/
theorem StepDoes.jumps_hiLo (hf : i.form = f) (hw : stepAt (formTable f) k = some (act State.jumpHiLo))
    (hn : (formTable f).length = k) :
    StepDoes i k fun s x t => t = { s with cpu := { s.cpu with pc := cat x.hi x.lo }, cur := none } :=
  StepDoes.last hf _ hw hn fun s x hq => by
    rw [State.jumpHiLo, State.hiLo_of_cur hq]
    rfl

/-- A decision step of its own (R369). -/
theorem StepDoes.decides {cc : Cond} (hf : i.form = f) (hw : stepAt (formTable f) k = some (decideStep cc)) {n : Nat}
    (hn : (formTable f).length = n) (hl : k < n) :
    StepDoes i k fun s x t =>
      t = { s with cur := if s.cpu.cond cc then some ⟨.instr { x with taken := true }, k + 1⟩ else none } :=
  StepDoes.of_form hf _ hw fun s x hq => by
    refine ⟨_, ?_, rfl⟩
    unfold decideStep decideCond
    by_cases hc : s.cpu.cond cc = true
    · rw [if_pos hc, if_pos hc, result_go_lt (hn ▸ hl)]
      simp [State.advance, State.setTaken, State.mapScratch, SeqKind.mapScratch, hq]
    · rw [if_neg hc, if_neg hc]
      rfl

/-- RETI's first step schedules IME and goes on (R370). -/
theorem StepDoes.schedules_ime (hf : i.form = f)
    (hw : stepAt (formTable f) k = some (act fun s => s.setIme .scheduledInitial)) {n : Nat}
    (hn : (formTable f).length = n) (hl : k < n) :
    StepDoes i k fun s x t => t = { s with ime := .scheduledInitial, cur := some ⟨.instr x, k + 1⟩ } :=
  StepDoes.of_form hf _ hw fun s x hq => ⟨_, result_go_lt (hn ▸ hl), by simp [State.advance, State.setIme, hq]⟩

end kinds

/-! ### The loads -/

/-- Settles O26, form by form of the tables. -/
theorem load16 : Obligations.Load16 := by
  refine ⟨fun d => ?_, ?_, ?_⟩
  · exact Primary.of_form (.ldRpNn d) (by cases d <;> rfl) rfl rfl fun _ hf =>
      ⟨.first hf rfl, .of_form (n := 3) hf rfl rfl (by omega), .loads_rp hf rfl rfl⟩
  · exact ⟨.ld_sp_hl, rfl, rfl, .first rfl rfl, .last rfl _ rfl rfl fun _ _ _ => ⟨NoStore.of_eq .., rfl, rfl⟩⟩
  · exact ⟨.ld_mnn_sp, rfl, rfl, .first rfl rfl, .of_form (n := 5) rfl rfl rfl (by omega),
      .of_form (n := 5) rfl rfl rfl (by omega),
      .stores_goes_on (n := 5) rfl rfl rfl (by omega) fun _ _ => State.hiLo_of_cur,
      .stores rfl rfl rfl fun _ _ hq => by rw [State.hiLo_of_cur hq]⟩

/-- The number of the low byte of a word (R12). -/
theorem lo_toNat (v : Word) : (lo v).toNat = v.toNat % 256 := by
  simp [lo]

/-- The half carry of the signed-offset add, in the numbers of SP and of the byte (R238). -/
theorem spAdd_h (sp : Word) (e : Byte) : (spAdd sp e).h = decide (sp.toNat % 16 + e.toNat % 16 > 15) := by
  rw [spAdd, nibble, nibble, lo_toNat, Nat.mod_mod_of_dvd _ (by decide)]

/-- The carry of the signed-offset add, in the numbers of SP and of the byte (R238). -/
theorem spAdd_c (sp : Word) (e : Byte) : (spAdd sp e).c = decide (sp.toNat % 256 + e.toNat > 255) := by
  rw [spAdd, lo_toNat]

/-- Settles O29: both instructions take the value and the carries of `spAdd`. -/
theorem signedOffsetAdd : Obligations.SignedOffsetAdd := by
  refine ⟨⟨.ld_hl_spe, rfl, rfl, .first rfl rfl, .of_form (n := 3) rfl rfl rfl (by omega), ?_⟩,
    ⟨.add_sp_e, rfl, rfl, .first rfl rfl, .of_form (n := 4) rfl rfl rfl (by omega),
      .of_form (n := 4) rfl rfl rfl (by omega), ?_⟩⟩
  · refine .last rfl _ rfl rfl fun s x hq => ?_
    obtain rfl := State.scratch_of_cur hq
    exact ⟨NoStore.of_eq .., rfl, rfl, cat_hi_lo _, FlagsAre.setFlags _ rfl rfl (spAdd_h ..) (spAdd_c ..)⟩
  · refine .last rfl _ rfl rfl fun s x hq => ?_
    obtain rfl := State.scratch_of_cur hq
    exact ⟨NoStore.of_eq .., rfl, rfl, rfl, FlagsAre.setFlags _ rfl rfl (spAdd_h ..) (spAdd_c ..)⟩

/-! ### The stack -/

/-- Settles O27, form by form of the tables. -/
theorem pushAndPop : Obligations.PushAndPop := by
  refine ⟨fun d => ?_, fun d => ?_⟩
  · exact Primary.of_form (.push d) (by cases d <;> rfl) rfl rfl fun _ hf =>
      ⟨.first hf rfl, .of_form (n := 4) hf rfl rfl (by omega), .of_form (n := 4) hf rfl rfl (by omega),
        .stores hf rfl rfl⟩
  · exact Primary.of_form (.pop d) (by cases d <;> rfl) rfl rfl fun _ hf =>
      ⟨.first hf rfl, .of_form (n := 3) hf rfl rfl (by omega), PopsRp2.of_form hf rfl rfl⟩

/-- A write leaves the PPU the launch plugged in. -/
@[simp] theorem State.write_ppu_model (s : State) (a : Word) (v : Byte) : (s.write a v).ppu.model = s.ppu.model := by
  cases hr : s.region a <;> simp [State.write, hr]

/-- Bytes are kept in flat RAM, and by the default PPU (R77, R450). -/
theorem State.keeps_cases {s : State} {a : Word} (h : s.keeps a = true) :
    s.region a = .flatRam ∨ s.ppuOwns a = true ∧ s.ppu.model = .null := by
  unfold State.keeps at h
  unfold State.ppuOwns
  cases hr : s.region a <;> simp_all

/-- DIV, TAC and the unmap register are not among the addresses that keep bytes (R72). -/
theorem State.ne_of_keeps {s : State} {a : Word} (h : s.keeps a = true) : a ≠ 0xFF04 ∧ a ≠ 0xFF07 ∧ a ≠ 0xFF50 := by
  refine ⟨?_, ?_, ?_⟩
  all_goals
    rintro rfl
    unfold State.keeps at h
  · cases h
  · cases h
  · rw [State.region_unmap] at h
    cases h

/-- A write to an address that keeps bytes concerns no other address (R83). -/
theorem State.not_mayAlsoChange_of_keeps {s : State} {a : Word} (h : s.keeps a = true) (b : Word) :
    ¬ s.MayAlsoChange a b := by
  obtain ⟨hdiv, htac, hunmap⟩ := State.ne_of_keeps h
  rintro (⟨ha | ha, -⟩ | ⟨ha, -⟩ | ⟨hext, howns, -⟩)
  · exact hdiv ha
  · exact htac ha
  · exact hunmap ha
  · obtain hr | ⟨-, hnull⟩ := State.keeps_cases h
    · simp [State.ppuOwns, hr] at howns
    · simp [hnull] at hext

theorem Stores.canonical {s t : State} {a : Word} {v : Byte} (h : Stores s t a v) (hc : s.Canonical) : t.Canonical := by
  rw [h.rest]
  exact hc.write a v

/-- A store at an address that keeps bytes changes nothing about which addresses keep bytes. -/
theorem Stores.keeps {s t : State} {a : Word} {v : Byte} (h : Stores s t a v) (ha : s.keeps a = true) (b : Word) :
    t.keeps b = s.keeps b := by
  have hmap : (s.write a v).bootMapped = s.bootMapped := by
    rw [State.write_bootMapped_eq, if_neg (State.ne_of_keeps ha).2.2]
  rw [h.rest]
  simp [State.keeps, State.region, hmap]

/-- Two bytes stored one after the other at different addresses that keep bytes are both there. -/
theorem Stores.read_both {s t u : State} {a b : Word} {v w : Byte} (hst : Stores s t a v) (htu : Stores t u b w)
    (hab : a ≠ b) (hc : s.Canonical) (ha : s.keeps a = true) (hb : s.keeps b = true) :
    u.read a = v ∧ u.read b = w := by
  have hb' : t.keeps b = true := (hst.keeps ha b).trans hb
  refine ⟨?_, htu.kept (hst.canonical hc) hb'⟩
  rw [htu.frame a hab (State.not_mayAlsoChange_of_keeps hb' a), hst.kept hc ha]

/-- One step, and then the others. -/
theorem execSteps_of_exec {i : Instr} {n : Nat} {s t : State} (h : exec i s = .next t) :
    execSteps i (n + 1) s = execSteps i n t := by
  simp only [execSteps, h]

/-- No pair of `rp2` is in SP (R126). -/
theorem Cpu.rp2_of_sp (p : Cpu) (v : Word) (d : Rp2) : Cpu.rp2 { p with sp := v } d = p.rp2 d := by
  cases d <;> rfl

/-- A push leaves its word in the two bytes below SP, the high byte on top, and changes no register but SP (R232). -/
theorem execSteps_push {i : Instr} {d : Rp2} (hidle : Idles i 1) (hdown : PushesDown i 2)
    (hhigh : PushesHi i 3 fun s => s.cpu.rp2 d)
    (hlow : StepDoes i 4 fun s _ t => Stores s t s.cpu.sp (lo (s.cpu.rp2 d)) ∧ t.cpu = s.cpu ∧ t.cur = none)
    {s : State} {x : Scratch} (hc : s.Canonical) (hq : s.cur = some ⟨.instr x, 1⟩)
    (hk1 : s.keeps (s.cpu.sp - 1) = true) (hk2 : s.keeps (s.cpu.sp - 2) = true) :
    ∃ u, execSteps i 4 s = .next u ∧ u.cpu = { s.cpu with sp := s.cpu.sp - 2 } ∧ u.cur = none ∧
      u.read (s.cpu.sp - 1) = hi (s.cpu.rp2 d) ∧ u.read (s.cpu.sp - 2) = lo (s.cpu.rp2 d) := by
  obtain ⟨s1, he1, hs1⟩ := hidle s x hq
  obtain ⟨s2, he2, hs2⟩ := hdown s1 x (by rw [hs1])
  obtain ⟨t, he3, hst, htcpu, htcur⟩ := hhigh s2 x (by rw [hs2])
  obtain ⟨u, he4, htu, hucpu, hucur⟩ := hlow t x htcur
  subst hs2 hs1
  have hsp : s.cpu.sp - 1 - 1 = s.cpu.sp - 2 := by bv_omega
  simp only [Cpu.rp2_of_sp, hsp, htcpu] at hst htu htcpu hucpu
  refine ⟨u, ?_, hucpu, hucur, hst.read_both htu (by bv_omega) hc hk1 hk2⟩
  rw [execSteps_of_exec he1, execSteps_of_exec he2, execSteps_of_exec he3, execSteps_of_exec he4, execSteps]

/-- A pop takes its word from the two bytes at SP and moves SP past them (R235). -/
theorem execSteps_pop {i : Instr} {d : Rp2} (hidle : Idles i 1) (hpopLo : PopsLo i 2) (hpopHi : PopsRp2 i 3 d)
    {s : State} {x : Scratch} (hq : s.cur = some ⟨.instr x, 1⟩) {v : Word} (hlo : s.read s.cpu.sp = lo v)
    (hhi : s.read (s.cpu.sp + 1) = hi v) :
    ∃ t, execSteps i 3 s = .next t ∧ t.cur = none ∧ t.cpu.rp2 d = (if d = .af then v &&& 0xFFF0#16 else v) ∧
      t.cpu.sp = s.cpu.sp + 2 := by
  obtain ⟨s1, he1, hs1⟩ := hidle s x hq
  obtain ⟨s2, he2, hs2⟩ := hpopLo s1 x (by rw [hs1])
  obtain ⟨t, he3, -, hcur, hset, -, hsp, -⟩ := hpopHi s2 _ (by rw [hs2])
  subst hs2 hs1
  refine ⟨t, ?_, hcur, ?_, ?_⟩
  · rw [execSteps_of_exec he1, execSteps_of_exec he2, execSteps_of_exec he3, execSteps]
  · have hv : cat (s.read (s.cpu.sp + 1)) (s.read s.cpu.sp) = v := by rw [hlo, hhi, cat_hi_lo]
    rw [← hv]
    exact hset
  · rw [hsp]
    show s.cpu.sp + 1 + 1 = s.cpu.sp + 2
    bv_omega

/-- Settles O28: the push leaves the word below SP, and the pop takes it from there. -/
theorem pushThenPop : Obligations.PushThenPop := by
  intro d d' s x hc hq hk1 hk2
  obtain ⟨push, hpush, hidle, hdown, hhigh, hlow⟩ := pushAndPop.1 d
  obtain ⟨pop, hpop, hidle', hpopLo, hpopHi⟩ := pushAndPop.2 d'
  obtain ⟨u, hu, hcpu, hcur, hhi, hlo⟩ := execSteps_push hidle hdown hhigh hlow hc hq hk1 hk2
  have hsp : u.cpu.sp = s.cpu.sp - 2 := by rw [hcpu]
  have hhi' : u.read (u.cpu.sp + 1) = hi (s.cpu.rp2 d) := by
    rw [← hhi, hsp]
    congr 1
    bv_omega
  obtain ⟨t, ht, htcur, htv, htsp⟩ :=
    execSteps_pop hidle' hpopLo hpopHi (s := { u with cur := some ⟨.instr x, 1⟩ }) rfl (hsp ▸ hlo) hhi'
  refine ⟨push, hpush, pop, hpop, u, t, hu, hsp, hcur, ht, htcur, htv, htsp.trans ?_⟩
  show u.cpu.sp + 2 = s.cpu.sp
  rw [hsp]
  bv_omega

/-! ### Calls, restarts and returns -/

/-- Settles O45, form by form of the tables. -/
theorem callsAndRestarts : Obligations.CallsAndRestarts := by
  refine ⟨?_, fun cc => ?_, fun y => ?_⟩
  · exact ⟨.call_nn, rfl, rfl, .first rfl rfl, .of_form (n := 6) rfl rfl rfl (by omega),
      .of_form (n := 6) rfl rfl rfl (by omega), .of_form (n := 6) rfl rfl rfl (by omega),
      .of_form (n := 6) rfl rfl rfl (by omega), .pushes_pc_jumps rfl rfl rfl fun _ _ => State.hiLo_of_cur⟩
  · exact Primary.of_form (.callCc cc) (by cases cc <;> rfl) rfl rfl fun _ hf =>
      ⟨.first hf rfl, .of_form (n := 6) hf rfl rfl (by omega),
        .of_form (n := 6) hf rfl rfl (by omega) fun _ _ => rfl, .of_form (n := 6) hf rfl rfl (by omega),
        .of_form (n := 6) hf rfl rfl (by omega), .pushes_pc_jumps hf rfl rfl fun _ _ => State.hiLo_of_cur⟩
  · exact Primary.of_form (.rst y) (by revert y; decide) rfl rfl fun _ hf =>
      ⟨.first hf rfl, .of_form (n := 4) hf rfl rfl (by omega), .of_form (n := 4) hf rfl rfl (by omega),
        .pushes_pc_jumps hf rfl rfl fun _ _ _ => rfl⟩

/-- Settles O46, form by form of the tables. -/
theorem returns : Obligations.Returns := by
  refine ⟨?_, fun cc => ?_, ?_⟩
  · exact ⟨.ret, rfl, rfl, .first rfl rfl, .of_form (n := 4) rfl rfl rfl (by omega),
      .of_form (n := 4) rfl rfl rfl (by omega), .jumps_hiLo rfl rfl rfl⟩
  · exact Primary.of_form (.retCc cc) (by cases cc <;> rfl) rfl rfl fun _ hf =>
      ⟨.first hf rfl, .decides (n := 5) hf rfl rfl (by omega), .of_form (n := 5) hf rfl rfl (by omega),
        .of_form (n := 5) hf rfl rfl (by omega), .jumps_hiLo hf rfl rfl⟩
  · exact ⟨.reti, rfl, rfl, .schedules_ime (n := 4) rfl rfl rfl (by omega), .of_form (n := 4) rfl rfl rfl (by omega),
      .of_form (n := 4) rfl rfl rfl (by omega), .jumps_hiLo rfl rfl rfl⟩

end Sys2Proof.Machine
end

section
/-! PROOFS. The 8-bit arithmetic and logic: the functions of the ALU in numbers, and the steps that use them
(43_alu8.md R260 to R279). -/

namespace Sys2Proof.Machine

/-! ### The two-stage add and subtract in numbers (R269, R278) -/

/-- The low nibble of a sum. -/
theorem nibble_add (a b : Byte) : nibble (a + b) = (nibble a + nibble b) % 16 := by
  rw [nibble, BitVec.toNat_add, Nat.mod_mod_of_dvd _ (by decide), nibble, nibble, ← Nat.add_mod]

/-- The low nibble of a difference. -/
theorem nibble_sub (a b : Byte) : nibble (a - b) = (nibble a + 16 - nibble b) % 16 := by
  simp only [nibble, BitVec.toNat_sub]
  omega

/-- A carry as the byte the second stage adds. -/
theorem toNat_setWidth_ofBool (c : Bool) : ((BitVec.ofBool c).setWidth 8).toNat = c.toNat := by
  cases c <;> rfl

section add_sub

variable (a b : Byte) (cin : Bool)

theorem add8_val_toNat : (add8 a b cin).val.toNat = (a.toNat + b.toNat + cin.toNat) % 256 := by
  simp [add8]

theorem sub8_val_toNat : (sub8 a b cin).val.toNat = (a.toNat + 512 - b.toNat - cin.toNat) % 256 := by
  have hc := cin.toNat_le
  simp only [sub8, BitVec.toNat_sub, toNat_setWidth_ofBool]
  omega

/-- A carry leaves the low nibble in at most one of the two stages. -/
theorem add8_h : (add8 a b cin).h = decide (a.toNat % 16 + b.toNat % 16 + cin.toNat > 15) := by
  have hc := cin.toNat_le
  rw [Bool.eq_iff_iff]
  simp only [add8, nibble_add, Bool.or_eq_true, decide_eq_true_eq]
  unfold nibble
  omega

/-- A carry leaves the byte in at most one of the two stages. -/
theorem add8_c : (add8 a b cin).c = decide (a.toNat + b.toNat + cin.toNat > 255) := by
  have hc := cin.toNat_le
  rw [Bool.eq_iff_iff]
  simp only [add8, BitVec.toNat_add, Bool.or_eq_true, decide_eq_true_eq]
  omega

/-- The low nibble borrows in at most one of the two stages. -/
theorem sub8_h : (sub8 a b cin).h = decide (a.toNat % 16 < b.toNat % 16 + cin.toNat) := by
  have hc := cin.toNat_le
  rw [Bool.eq_iff_iff]
  simp only [sub8, nibble_sub, Bool.or_eq_true, decide_eq_true_eq]
  unfold nibble
  omega

/-- The byte borrows in at most one of the two stages. -/
theorem sub8_c : (sub8 a b cin).c = decide (a.toNat < b.toNat + cin.toNat) := by
  have hc := cin.toNat_le
  rw [Bool.eq_iff_iff]
  simp only [sub8, BitVec.toNat_sub, Bool.or_eq_true, decide_eq_true_eq]
  omega

/-- Z of a sum, in its number. -/
theorem add8_z : (add8 a b cin).z = decide ((a.toNat + b.toNat + cin.toNat) % 256 = 0) := by
  rw [← add8_val_toNat, Bool.eq_iff_iff, decide_eq_true_eq]
  exact beq_iff_eq.trans BitVec.toNat_inj.symm

/-- Z of a difference, in its number. -/
theorem sub8_z : (sub8 a b cin).z = decide ((a.toNat + 512 - b.toNat - cin.toNat) % 256 = 0) := by
  rw [← sub8_val_toNat, Bool.eq_iff_iff, decide_eq_true_eq]
  exact beq_iff_eq.trans BitVec.toNat_inj.symm

end add_sub

/-- Settles O33: the lemmas on the carries, and Z of a sum. -/
theorem singleStageFlags : Obligations.SingleStageFlags := fun a b cin =>
  ⟨add8_h a b cin, add8_c a b cin, sub8_h a b cin, sub8_c a b cin, by simp [add8_z], by simp [add8_h],
    by simp [add8_c]⟩

/-! ### The accumulator operations (R260 to R268) -/

/-- The three operand forms of an accumulator operation, from the value and the flags it gives A and F. -/
theorem AluForms.of_alu8 {op : AluOp} {E : Cpu → Byte → Cpu → Prop}
    (h : ∀ p b, let r := alu8 op p.a b p.cf
      E p b ((p.setR8 .a r.val).setFlags r.z r.n r.h r.c)) : AluForms op E := by
  refine ⟨fun src => ?_, ?_, ?_⟩
  · exact Primary.of_form (.aluR op src) rfl rfl rfl fun _ hf =>
      .last hf _ rfl rfl fun s _ _ => ⟨NoStore.of_eq .., rfl, h s.cpu _⟩
  · exact Primary.of_form (.aluM op) rfl rfl rfl fun _ hf =>
      ⟨.first hf rfl, .last hf _ rfl rfl fun s _ _ => ⟨NoStore.of_eq .., rfl, h s.cpu _⟩⟩
  · exact Primary.of_form (.aluN op) rfl rfl rfl fun _ hf =>
      ⟨.first hf rfl, .last hf _ rfl rfl fun s _ _ => ⟨NoStore.of_eq .., rfl, h { s.cpu with pc := s.cpu.pc + 1 } _⟩⟩

/-- Settles O30: the numbers of `add8`, with carry-in 0 for ADD and Cf for ADC. -/
theorem addAndAdc : Obligations.AddAndAdc := by
  refine ⟨.of_alu8 fun p b => ?_, .of_alu8 fun p b => ?_⟩
  · exact ⟨rfl, add8_val_toNat p.a b false, FlagsAre.setFlags _ rfl rfl (add8_h ..) (add8_c ..)⟩
  · exact ⟨rfl, add8_val_toNat p.a b p.cf, FlagsAre.setFlags _ rfl rfl (add8_h ..) (add8_c ..)⟩

/-- Settles O31: the numbers of `sub8`, with borrow 0 for SUB and CP and Cf for SBC. -/
theorem subSbcAndCp : Obligations.SubSbcAndCp := by
  refine ⟨.of_alu8 fun p b => ?_, .of_alu8 fun p b => ?_, .of_alu8 fun p b => ?_⟩
  · exact ⟨rfl, sub8_val_toNat p.a b false, FlagsAre.setFlags _ (sub8_z ..) rfl (sub8_h ..) (sub8_c ..)⟩
  · exact ⟨rfl, sub8_val_toNat p.a b p.cf, FlagsAre.setFlags _ (sub8_z ..) rfl (sub8_h ..) (sub8_c ..)⟩
  · exact ⟨rfl, rfl, FlagsAre.setFlags _ (sub8_z ..) rfl (sub8_h ..) (sub8_c ..)⟩

/-- Settles O32: a bit of the result is that of the bits. -/
theorem andXorOr : Obligations.AndXorOr := by
  refine ⟨.of_alu8 fun p b => ?_, .of_alu8 fun p b => ?_, .of_alu8 fun p b => ?_⟩
  · exact ⟨rfl, fun k => BitVec.getElem_and k.isLt, FlagsAre.setFlags _ rfl rfl rfl rfl⟩
  · exact ⟨rfl, fun k => BitVec.getElem_xor k.isLt, FlagsAre.setFlags _ rfl rfl rfl rfl⟩
  · exact ⟨rfl, fun k => BitVec.getElem_or k.isLt, FlagsAre.setFlags _ rfl rfl rfl rfl⟩

/-! ### Rewriting a byte (R270 to R273) -/

section modify

variable {i : Instr} {f : Form} {k : Nat} {g : Byte → Bool → Flagged}

/-- A last step that rewrites a register, with the flags of the result. -/
theorem StepDoes.modifies_r8 {r : R8} (hf : i.form = f)
    (hw : stepAt (formTable f) k = some (act fun s => s.modifyR8 r g)) (hn : (formTable f).length = k) :
    StepDoes i k fun s _ t =>
      let y := g (s.cpu.r8 r) s.cpu.cf
      NoStore s t ∧ t.cur = none ∧ SetsR8 s.cpu { t.cpu with f := s.cpu.f } r y.val ∧
        FlagsAre t.cpu y.z y.n y.h y.c :=
  StepDoes.last hf _ hw hn fun s _ _ => by
    have hp : { (s.modifyR8 r g).cpu with f := s.cpu.f } = s.cpu.setR8 r (g (s.cpu.r8 r) s.cpu.cf).val := by
      cases r <;> rfl
    exact ⟨NoStore.of_eq .., rfl, hp ▸ SetsR8.setR8 .., FlagsAre.setFlags _ rfl rfl rfl rfl⟩

/-- A last step that rewrites the byte at HL, read into the scratch before, with the flags of the result. -/
theorem StepDoes.modifies_hl (hf : i.form = f) (hw : stepAt (formTable f) k = some (modifyHl g))
    (hn : (formTable f).length = k) :
    StepDoes i k fun s x t =>
      let y := g x.tmp s.cpu.cf
      Stores s t s.cpu.hl y.val ∧ OnlyF s.cpu t.cpu ∧ t.cur = none ∧ FlagsAre t.cpu y.z y.n y.h y.c :=
  StepDoes.last hf _ hw hn fun s x hq => by
    obtain rfl := State.scratch_of_cur hq
    refine ⟨Stores.of_write .., ?_, rfl, FlagsAre.setFlags _ rfl rfl rfl rfl⟩
    simp [OnlyF, State.setFlagsOf_eq, Cpu.setFlags]

end modify

/-- Settles O34: both operations rewrite a register, or the byte at HL, by `inc8` or `dec8`. -/
theorem incAndDec8 : Obligations.IncAndDec8
  | false => ⟨fun r => Primary.of_form (.incR r) rfl rfl rfl fun _ hf => .modifies_r8 (g := inc8) hf rfl rfl,
      Primary.of_form .incM rfl rfl rfl fun _ hf =>
        ⟨.first hf rfl, .of_form (n := 3) hf rfl rfl (by omega), .modifies_hl (g := inc8) hf rfl rfl⟩⟩
  | true => ⟨fun r => Primary.of_form (.decR r) rfl rfl rfl fun _ hf => .modifies_r8 (g := dec8) hf rfl rfl,
      Primary.of_form .decM rfl rfl rfl fun _ hf =>
        ⟨.first hf rfl, .of_form (n := 3) hf rfl rfl (by omega), .modifies_hl (g := dec8) hf rfl rfl⟩⟩

/-! ### The decimal adjust (R274) -/

/-- The high correction leaves the low nibble as it was. -/
theorem nibble_high_correction (a : Byte) (up : Bool) : nibble (if up then a + 0x60#8 else a) = nibble a := by
  cases up with
  | false => rfl
  | true =>
    rw [if_pos rfl, nibble_add]
    simp [nibble]

section daa

variable (a : Byte) (n h c : Bool)

theorem daa8_z : (daa8 a n h c).z = decide ((daa8 a n h c).val = 0) := by
  cases n <;> rfl

theorem daa8_n : (daa8 a n h c).n = n := by
  cases n <;> rfl

theorem daa8_h : (daa8 a n h c).h = false := by
  cases n <;> rfl

theorem daa8_c : (daa8 a n h c).c = if n then c else (c || decide (a.toNat > 0x99)) := by
  cases n <;> rfl

/-- After an add the two corrections are added; the high one leaves the low nibble as it was. -/
theorem daa8_val_toNat_add : (daa8 a false h c).val.toNat =
    (a.toNat + (if c ∨ a.toNat > 0x99 then 0x60 else 0) + (if h ∨ a.toNat % 16 > 9 then 0x06 else 0)) % 256 := by
  have ha := a.isLt
  simp only [daa8, nibble_high_correction, Bool.false_eq_true, if_false]
  unfold nibble
  simp only [Bool.or_eq_true, decide_eq_true_eq]
  split_ifs <;> bv_omega

/-- After a subtract the two corrections are subtracted. -/
theorem daa8_val_toNat_sub : (daa8 a true h c).val.toNat =
    (a.toNat + 512 - (if c then 0x60 else 0) - (if h then 0x06 else 0)) % 256 := by
  have ha := a.isLt
  simp only [daa8, if_true]
  split_ifs <;> bv_omega

end daa

/-- Settles O35: the value and the flags of `daa8`, by N. -/
theorem decimalAdjust : Obligations.DecimalAdjust := by
  refine ⟨.daa, rfl, rfl, .last rfl _ rfl rfl fun s _ _ => ?_⟩
  refine ⟨NoStore.of_eq .., rfl, rfl, ?_, FlagsAre.setFlags _ (daa8_z ..) (daa8_n ..) (daa8_h ..) (daa8_c ..)⟩
  show (daa8 s.cpu.a s.cpu.f[6] s.cpu.hf s.cpu.cf).val.toNat = _
  cases s.cpu.f[6] with
  | false => exact daa8_val_toNat_add ..
  | true => exact daa8_val_toNat_sub ..

/-! ### The decimal meaning of the adjust (R274 over R269) -/

/-- The correction of a sum whose high digits add up to `m` and whose low digits, with the carry, to `l`. -/
theorem decimal_correction_add {v m l : Nat} (hm : m ≤ 18) (hl : l ≤ 19)
    (hv : v = (16 * m + l + (if 10 * m + l ≥ 100 then 0x60 else 0) + (if l ≥ 10 then 0x06 else 0)) % 256) :
    v / 16 ≤ 9 ∧ v % 16 ≤ 9 ∧ v / 16 * 10 + v % 16 + (if 10 * m + l ≥ 100 then 100 else 0) = 10 * m + l := by
  split_ifs at hv ⊢ <;> omega

section decimal

variable {a b : Byte} (cin : Bool) (ha : IsDecimal a) (hb : IsDecimal b)

include ha hb

/-- After an add of decimal digits the high correction is due when the sum has a hundred. -/
theorem add8_high_due_iff : ((add8 a b cin).c = true ∨ (add8 a b cin).val.toNat > 0x99) ↔
    decimal a + decimal b + cin.toNat ≥ 100 := by
  have hc := cin.toNat_le
  simp only [add8_c, add8_val_toNat, decide_eq_true_eq]
  unfold IsDecimal at ha hb
  unfold decimal
  omega

/-- After an add of decimal digits the low correction is due when the sum of the low digits has a ten. -/
theorem add8_low_due_iff : ((add8 a b cin).h = true ∨ (add8 a b cin).val.toNat % 16 > 9) ↔
    a.toNat % 16 + b.toNat % 16 + cin.toNat ≥ 10 := by
  have hc := cin.toNat_le
  simp only [add8_h, add8_val_toNat, decide_eq_true_eq]
  unfold IsDecimal at ha hb
  omega

/-- The adjusted sum, with Cf its hundred. -/
theorem daa8_add8_decimal :
    let r := add8 a b cin
    let d := daa8 r.val false r.h r.c
    IsDecimal d.val ∧ decimal d.val + (if d.c then 100 else 0) = decimal a + decimal b + cin.toNat := by
  have hc := cin.toNat_le
  have hd : decimal a + decimal b + cin.toNat =
      10 * (a.toNat / 16 + b.toNat / 16) + (a.toNat % 16 + b.toNat % 16 + cin.toNat) := by
    unfold decimal
    omega
  have hs : a.toNat + b.toNat + cin.toNat =
      16 * (a.toNat / 16 + b.toNat / 16) + (a.toNat % 16 + b.toNat % 16 + cin.toNat) := by
    omega
  have hv := daa8_val_toNat_add (add8 a b cin).val (add8 a b cin).h (add8 a b cin).c
  simp only [add8_high_due_iff cin ha hb, add8_low_due_iff cin ha hb] at hv
  rw [add8_val_toNat, Nat.add_assoc, Nat.mod_add_mod, ← Nat.add_assoc, hs, hd] at hv
  simp only [daa8_c, Bool.false_eq_true, if_false, Bool.or_eq_true, decide_eq_true_eq, add8_high_due_iff cin ha hb]
  obtain ⟨ha1, ha0⟩ := ha
  obtain ⟨hb1, hb0⟩ := hb
  obtain ⟨h1, h0, h⟩ := decimal_correction_add (by omega) (by omega) hv
  exact ⟨⟨h1, h0⟩, by rwa [hd]⟩

/-- The adjusted difference, with Cf its borrowed hundred. -/
theorem daa8_sub8_decimal :
    let r := sub8 a b cin
    let d := daa8 r.val true r.h r.c
    IsDecimal d.val ∧ decimal d.val + decimal b + cin.toNat = decimal a + (if d.c then 100 else 0) := by
  have hc := cin.toNat_le
  have hv := daa8_val_toNat_sub (sub8 a b cin).val (sub8 a b cin).h (sub8 a b cin).c
  simp only [daa8_c, sub8_val_toNat, sub8_h, sub8_c, decide_eq_true_eq, if_true] at hv ⊢
  unfold IsDecimal decimal at *
  split_ifs at hv ⊢ <;> omega

end decimal

/-- Settles O36: the add and the subtract. -/
theorem decimalAdjustIsDecimal : Obligations.DecimalAdjustIsDecimal := fun _ _ cin ha hb =>
  ⟨daa8_add8_decimal cin ha hb, daa8_sub8_decimal cin ha hb⟩

/-! ### Complement and carry (R275 to R277) -/

/-- Settles O37: each is one step on A and F. -/
theorem complementAndCarry : Obligations.ComplementAndCarry := by
  refine ⟨⟨.cpl, rfl, rfl, .last rfl _ rfl rfl fun s _ _ => ?_⟩, ⟨.scf, rfl, rfl, .last rfl _ rfl rfl fun s _ _ => ?_⟩,
    ⟨.ccf, rfl, rfl, .last rfl _ rfl rfl fun s _ _ => ?_⟩⟩
  · exact ⟨NoStore.of_eq .., rfl, rfl, BitVec.toNat_not, FlagsAre.setFlags _ rfl rfl rfl rfl⟩
  · exact ⟨NoStore.of_eq .., rfl, rfl, FlagsAre.setFlags _ rfl rfl rfl rfl⟩
  · exact ⟨NoStore.of_eq .., rfl, rfl, FlagsAre.setFlags _ rfl rfl rfl rfl⟩

end Sys2Proof.Machine
end

section
/-! PROOFS. The 16-bit arithmetic: a pair stepped by one, and HL plus a pair byte by byte (44_alu16.md R300 to R302). -/

namespace Sys2Proof.Machine

/-! ### A pair stepped by one (R300, R302) -/

/-- A last step that sets a pair. -/
theorem StepDoes.sets_rp {i : Instr} {f : Form} {k : Nat} {d : Rp} {v : State → Word} (hf : i.form = f)
    (hw : stepAt (formTable f) k = some (act fun s => s.setRp d (v s))) (hn : (formTable f).length = k) :
    StepDoes i k fun s _ t => NoStore s t ∧ t.cur = none ∧ SetsRp s.cpu t.cpu d (v s) :=
  StepDoes.last hf _ hw hn fun _ _ _ => ⟨NoStore.of_eq .., rfl, SetsRp.setRp ..⟩

/-- Settles O38: the second step of both kinds sets the pair. -/
theorem incAndDec16 : Obligations.IncAndDec16 := by
  refine fun d => ⟨?_, ?_⟩
  · exact Primary.of_form (.incRp d) (by cases d <;> rfl) rfl rfl fun _ hf => ⟨.first hf rfl, .sets_rp hf rfl rfl⟩
  · exact Primary.of_form (.decRp d) (by cases d <;> rfl) rfl rfl fun _ hf => ⟨.first hf rfl, .sets_rp hf rfl rfl⟩

/-! ### The sum of two words by their bytes (R301) -/

/-- The number of the high byte of a word (R12). -/
theorem hi_toNat (v : Word) : (hi v).toNat = v.toNat / 256 := by
  have hv := v.isLt
  simp only [hi, BitVec.extractLsb'_toNat, Nat.shiftRight_eq_div_pow]
  omega

/-- Whether the sum of two low bytes leaves the byte. -/
def lowCarry (l : Byte) (v : Word) : Bool := decide (l.toNat + (lo v).toNat > 0xFF)

section sum

variable (h l : Byte) (v : Word)

/-- The carry out of the low bytes is the quotient of their sum. -/
theorem lowCarry_toNat : (lowCarry l v).toNat = (l.toNat + v.toNat % 256) / 256 := by
  have hl := l.isLt
  rw [lowCarry, lo_toNat]
  by_cases hc : l.toNat + v.toNat % 256 > 0xFF
  · rw [decide_eq_true hc, Bool.toNat_true]
    omega
  · rw [decide_eq_false hc, Bool.toNat_false]
    omega

/-- The bytes of a sum of words: the sum of the low bytes, and that of the high bytes with the carry between. -/
theorem cat_add_bytes :
    cat (BitVec.ofNat 8 (h.toNat + (hi v).toNat + (lowCarry l v).toNat)) (BitVec.ofNat 8 (l.toNat + (lo v).toNat)) =
      cat h l + v := by
  apply BitVec.eq_of_toNat_eq
  rw [BitVec.toNat_add]
  simp only [cat_toNat, BitVec.toNat_ofNat, lowCarry_toNat, hi_toNat, lo_toNat]
  omega

/-- A carry out of the low nibble of the high bytes is one out of bit 11 of the words. -/
theorem high_nibble_carry_iff : nibble h + nibble (hi v) + (lowCarry l v).toNat > 0xF ↔
    (cat h l).toNat % 4096 + v.toNat % 4096 > 4095 := by
  have hl := l.isLt
  rw [nibble, nibble, lowCarry_toNat, hi_toNat, cat_toNat]
  omega

/-- A carry out of the high bytes is one out of bit 15 of the words. -/
theorem high_carry_iff : h.toNat + (hi v).toNat + (lowCarry l v).toNat > 0xFF ↔ (cat h l).toNat + v.toNat > 65535 := by
  have hl := l.isLt
  rw [lowCarry_toNat, hi_toNat, cat_toNat]
  omega

end sum

/-! ### HL plus a pair (R301) -/

/-- The registers after M1 of `ADD HL,rr`: L is the sum of the low bytes. -/
def Cpu.addHlLow (p : Cpu) (d : Rp) : Cpu :=
  { p with l := BitVec.ofNat 8 (p.l.toNat + (lo (p.rp d)).toNat) }

/-- The registers after M2 of `ADD HL,rr`, with the carry out of the low bytes: H is the sum of the high ones. -/
def Cpu.addHlHigh (p : Cpu) (d : Rp) (c : Bool) : Cpu :=
  let r := hi (p.rp d)
  let n := p.h.toNat + r.toNat + c.toNat
  ({ p with h := BitVec.ofNat 8 n } : Cpu).setFlags p.zf false (decide (nibble p.h + nibble r + c.toNat > 0xF))
    (decide (n > 0xFF))

/-- The registers after both steps of `ADD HL,rr`. -/
def Cpu.addHl (p : Cpu) (d : Rp) : Cpu := (p.addHlLow d).addHlHigh d (lowCarry p.l (p.rp d))

section registers

variable (p : Cpu) (d : Rp)

/-- M1 changes the high byte of no pair, HL's own included. -/
theorem Cpu.hi_rp_addHlLow : hi ((p.addHlLow d).rp d) = hi (p.rp d) := by
  cases d with
  | bc | de | sp => rfl
  | hl => exact (hi_cat ..).trans (hi_cat ..).symm

/-- The bytes the two steps leave in H and L are those of the sum (R301). -/
theorem Cpu.addHl_hl : (p.addHl d).hl = p.hl + p.rp d := by
  have h := cat_add_bytes p.h p.l (p.rp d)
  rw [← p.hi_rp_addHlLow] at h
  exact h

/-- The carries of the high bytes are those out of bits 11 and 15 (R301). -/
theorem Cpu.addHl_flags : FlagsAre (p.addHl d) p.f[7] false
    (decide (p.hl.toNat % 4096 + (p.rp d).toNat % 4096 > 4095)) (decide (p.hl.toNat + (p.rp d).toNat > 65535)) := by
  have hh := high_nibble_carry_iff p.h p.l (p.rp d)
  have hc := high_carry_iff p.h p.l (p.rp d)
  rw [← p.hi_rp_addHlLow] at hh hc
  exact FlagsAre.setFlags _ rfl rfl (decide_eq_decide.mpr hh) (decide_eq_decide.mpr hc)

end registers

section steps

variable {i : Instr} {d : Rp} {s : State} {x : Scratch}

/-- M1 leaves the carry out of the low bytes in the scratch. -/
theorem exec_addHl_low (hf : i.form = .addHl d) (hq : s.cur = some ⟨.instr x, 1⟩) :
    exec i s = .next { s with
      cpu := s.cpu.addHlLow d
      cur := some ⟨.instr { x with carryLo := lowCarry s.cpu.l (s.cpu.rp d) }, 2⟩ } := by
  have he : exec i s = .next (s.addHlLow d).advance := exec_of_form hf hq rfl
  rw [he]
  simp [State.advance, State.addHlLow, State.setCarryLo, State.mapScratch, SeqKind.mapScratch, State.setR8_eq,
    State.setCpu, Cpu.setR8, Cpu.addHlLow, lowCarry, hq]

/-- M2 takes the carry from the scratch and ends the sequence. -/
theorem exec_addHl_high (hf : i.form = .addHl d) (hq : s.cur = some ⟨.instr x, 2⟩) :
    exec i s = .next { s with cpu := s.cpu.addHlHigh d x.carryLo, cur := none } := by
  obtain rfl := State.scratch_of_cur hq
  exact exec_of_form hf hq rfl

/-- Both steps, one after the other. -/
theorem execSteps_addHl (hf : i.form = .addHl d) (hq : s.cur = some ⟨.instr x, 1⟩) :
    execSteps i 2 s = .next { s with cpu := s.cpu.addHl d, cur := none } := by
  rw [execSteps_of_exec (exec_addHl_low hf hq), execSteps_of_exec (exec_addHl_high hf rfl), execSteps, Cpu.addHl]

end steps

/-- Settles O39: M1 alone, and both steps. -/
theorem addPairToHl : Obligations.AddPairToHl := fun d =>
  Primary.of_form (.addHl d) (by cases d <;> rfl) rfl rfl fun _ hf =>
    ⟨fun _ _ hq => ⟨_, exec_addHl_low hf hq, NoStore.of_eq .., _, rfl⟩,
      fun s _ hq => ⟨_, execSteps_addHl hf hq, NoStore.of_eq .., rfl, rfl, s.cpu.addHl_hl d, s.cpu.addHl_flags d⟩⟩

end Sys2Proof.Machine
end

section
/-! PROOFS. The rotate and shift functions, and the rotates, shifts and bit operations step by step of their tables
(45_rotate_shift_bit.md R320 to R337). -/

namespace Sys2Proof.Machine

/-! ### The rotate and shift functions (R325) -/

section rotate

variable (v : Byte) (c : Bool)

/-- Bytes with no bit in common are joined as they are added. -/
theorem toNat_or_of_and_eq_zero {x y : Byte} (h : x &&& y = 0) : (x ||| y).toNat = x.toNat + y.toNat := by
  rw [← BitVec.add_eq_or_of_and_eq_zero x y h, BitVec.toNat_add_of_and_eq_zero h]

/-- A bit moved in from below (`rl`). -/
theorem shiftLeft_or_bit0_toNat : (v <<< 1 ||| bit0 c).toNat = (2 * v.toNat + c.toNat) % 256 := by
  have h : v <<< 1 &&& bit0 c = 0 := by
    ext k hk
    by_cases h0 : k = 0 <;> simp [bit0, h0]
  have hc := c.toNat_le
  rw [toNat_or_of_and_eq_zero h, bit0, toNat_setWidth_ofBool, BitVec.toNat_shiftLeft]
  omega

/-- A bit moved in from above (`rr`). -/
theorem ushiftRight_or_bit7_toNat : (v >>> 1 ||| bit7 c).toNat = v.toNat / 2 + 128 * c.toNat := by
  have h : v >>> 1 &&& bit7 c = 0 := by
    ext k hk
    by_cases h7 : k < 7
    · simp [bit7, h7]
    · simp [show k = 7 by omega]
  have hc := c.toNat_le
  rw [toNat_or_of_and_eq_zero h, bit7, bit0, BitVec.toNat_shiftLeft, toNat_setWidth_ofBool, BitVec.toNat_ushiftRight]
  omega

/-- The nibbles change places (`swap`). -/
theorem shiftLeft_or_ushiftRight_four_toNat :
    (v <<< 4 ||| v >>> 4).toNat = v.toNat % 16 * 16 + v.toNat / 16 := by
  have h : v <<< 4 &&& v >>> 4 = 0 := by
    ext k hk
    by_cases h4 : k < 4
    · simp [h4]
    · simp [BitVec.getLsbD_of_ge v (4 + k) (by omega)]
  rw [toNat_or_of_and_eq_zero h, BitVec.toNat_shiftLeft, BitVec.toNat_ushiftRight]
  omega

/-- Bit 7 comes back in from below (`rlc`). -/
theorem shiftLeft_or_bit0_eq_rotateLeft : v <<< 1 ||| bit0 v[7] = v.rotateLeft 1 := by
  ext k hk
  by_cases h0 : k = 0 <;> simp [h0, bit0, BitVec.getElem_rotateLeft]

/-- Bit 0 comes back in from above (`rrc`). -/
theorem ushiftRight_or_bit7_eq_rotateRight : v >>> 1 ||| bit7 v[0] = v.rotateRight 1 := by
  ext k hk
  by_cases h7 : k < 7
  · simp [h7, bit7, BitVec.getElem_rotateRight, BitVec.getLsbD_eq_getElem (show 1 + k < 8 by omega)]
  · simp [show k = 7 by omega, bit7, bit0, BitVec.getElem_rotateRight]

/-- Bit 7 stays where it was (`sra`). -/
theorem ushiftRight_or_sign_eq_sshiftRight : v >>> 1 ||| (v &&& 0x80#8) = v.sshiftRight 1 := by
  ext k hk
  interval_cases k <;> simp [BitVec.getElem_sshiftRight, BitVec.msb_eq_getLsbD_last]

end rotate

/-- Settles O40, function by function; every carry-out is the one `rotate` writes. -/
theorem rotateFunctions : Obligations.RotateFunctions := fun v cin => by
  refine ⟨⟨?rlc, rfl⟩, ⟨?rrc, rfl⟩, ⟨?rl, rfl⟩, ⟨?rr, rfl⟩, ⟨?sla, rfl⟩, ⟨?sra, rfl⟩, ⟨?swap, rfl⟩, ⟨?srl, rfl⟩⟩
  case rlc => exact shiftLeft_or_bit0_eq_rotateLeft v
  case rrc => exact ushiftRight_or_bit7_eq_rotateRight v
  case rl => exact shiftLeft_or_bit0_toNat v cin
  case rr => exact ushiftRight_or_bit7_toNat v cin
  case sla => simp [rotate, Nat.shiftLeft_eq, Nat.mul_comm]
  case sra => exact ushiftRight_or_sign_eq_sshiftRight v
  case swap => exact shiftLeft_or_ushiftRight_four_toNat v
  case srl => simp [rotate, Nat.shiftRight_eq_div_pow]

/-! ### The prefixed instructions (R132) and their first steps (R320) -/

/-- The kind of a prefixed instruction, from its second byte. -/
theorem decodeCb_form {f : Form} {op : Byte} (hop : f.opByte = op) (hp : f.prefixed = true) : (decodeCb op).form = f :=
  hop ▸ decodeCb_opByte f hp

/-- The bit index, as the statements write it. -/
theorem ofNat_eq_code3 (b : Fin 8) : BitVec.ofNat 3 b.val = code3 b := BitVec.eq_of_toNat_eq (Nat.mod_eq_of_lt b.isLt)

/-- The second step of a prefixed instruction on the byte at HL is only the fetch before it (R166). -/
theorem Idles.second {i : Instr} {f : Form} {work : Action} {rest : List Action} (hf : i.form = f)
    (ht : formTable f = idle :: idle :: work :: rest) : Idles i 2 :=
  Idles.of_form (n := rest.length + 3) hf (by rw [ht]; rfl) (by rw [ht]; rfl) (by omega)

/-! ### The rotates and shifts (R321 to R334) -/

/-- The last step of an accumulator rotate. -/
theorem StepDoes.rotates_a {i : Instr} {f : Form} {k : Nat} {op : RotOp} (hf : i.form = f)
    (hw : stepAt (formTable f) k = some (act fun s => s.modifyR8 .a (rotAccFlagged op)))
    (hn : (formTable f).length = k) :
    StepDoes i k fun s _ t =>
      let r := rotate op s.cpu.a s.cpu.f[4]
      NoStore s t ∧ t.cur = none ∧ OnlyAF s.cpu t.cpu ∧ t.cpu.a = r.val ∧ FlagsAre t.cpu false false false r.co :=
  StepDoes.last hf _ hw hn fun _ _ _ => ⟨NoStore.of_eq .., rfl, rfl, rfl, FlagsAre.setFlags _ rfl rfl rfl rfl⟩

/-- Settles O41: the accumulator rotates one by one; the prefixed forms rewrite a register, or the byte at HL, by
`rotFlagged`. -/
theorem rotatesAndShifts : Obligations.RotatesAndShifts := by
  refine ⟨?_, fun op dst => ?_, fun op => ?_⟩
  · simp only [List.forall_mem_cons, List.not_mem_nil, false_imp_iff, implies_true, and_true]
    exact ⟨⟨.rlca, rfl, .rotates_a rfl rfl rfl⟩, ⟨.rrca, rfl, .rotates_a rfl rfl rfl⟩,
      ⟨.rla, rfl, .rotates_a rfl rfl rfl⟩, ⟨.rra, rfl, .rotates_a rfl rfl rfl⟩⟩
  · exact .modifies_r8 (g := rotFlagged op) (decodeCb_form (f := .rotR op dst) rfl rfl) rfl rfl
  · have hf := decodeCb_form (f := .rotM op) rfl rfl
    exact ⟨.second hf rfl, .of_form (n := 4) hf rfl rfl (by omega), .modifies_hl (g := rotFlagged op) hf rfl rfl⟩

/-! ### The bit test (R335) -/

/-- Settles O42: the last step of both forms writes the flags of `bitFlags`. -/
theorem bitTest : Obligations.BitTest := by
  intro b
  rw [ofNat_eq_code3]
  refine ⟨fun dst => ?_, ?_⟩
  · exact .last (decodeCb_form (f := .bitR b dst) rfl rfl) _ rfl rfl fun _ _ _ =>
      ⟨NoStore.of_eq .., rfl, rfl, FlagsAre.setFlags _ rfl rfl rfl rfl⟩
  · have hf := decodeCb_form (f := .bitM b) rfl rfl
    exact ⟨.second hf rfl, .last hf _ rfl rfl fun _ _ _ =>
      ⟨NoStore.of_eq .., rfl, rfl, FlagsAre.setFlags _ rfl rfl rfl rfl⟩⟩

/-! ### The bit reset and set (R336, R337) -/

/-- Bit `b` has the value `set`, and every other bit is as before. -/
def PutsBit (set : Bool) (b : Fin 8) (v w : Byte) : Prop := ∀ k : Fin 8, w[k] = if k = b then set else v[k]

/-- The mask of RES and SET is bit `b`. -/
theorem getElem_one_shiftLeft (b k : Fin 8) : (1#8 <<< b.val)[k.val] = decide (k = b) :=
  (BitVec.getElem_twoPow k.isLt).trans (decide_eq_decide.mpr Fin.ext_iff.symm)

theorem resBit_putsBit (b : Fin 8) (v : Byte) : PutsBit false b v (resBit b v) := fun k => by
  rw [resBit, Fin.getElem_fin, BitVec.getElem_and, BitVec.getElem_not, getElem_one_shiftLeft]
  split_ifs with h <;> simp [h]

theorem setBit_putsBit (b : Fin 8) (v : Byte) : PutsBit true b v (setBit b v) := fun k => by
  rw [setBit, Fin.getElem_fin, BitVec.getElem_or, getElem_one_shiftLeft]
  split_ifs with h <;> simp [h]

section kinds

variable {i : Instr} {f : Form} {k : Nat} {set : Bool} {b : Fin 8} {g : Byte → Byte}

/-- A last step that puts a bit of a register and writes no flag. -/
theorem StepDoes.puts_bit_r8 {r : R8} (hg : ∀ v, PutsBit set b v (g v)) (hf : i.form = f)
    (hw : stepAt (formTable f) k = some (act fun s => s.setR8 r (g (s.cpu.r8 r)))) (hn : (formTable f).length = k) :
    StepDoes i k fun s _ t =>
      NoStore s t ∧ t.cur = none ∧ ∃ w, PutsBit set b (s.cpu.r8 r) w ∧ SetsR8 s.cpu t.cpu r w :=
  StepDoes.last hf _ hw hn fun _ _ _ => ⟨NoStore.of_eq .., rfl, _, hg _, SetsR8.setR8 ..⟩

/-- A last step that puts a bit of the byte at HL, read into the scratch before, and writes no flag. -/
theorem StepDoes.puts_bit_hl (hg : ∀ v, PutsBit set b v (g v)) (hf : i.form = f)
    (hw : stepAt (formTable f) k = some (writes State.atHl fun s => g s.scratch.tmp))
    (hn : (formTable f).length = k) :
    StepDoes i k fun s x t =>
      t.cur = none ∧ t.cpu = s.cpu ∧ ∃ w, PutsBit set b x.tmp w ∧ Stores s t s.cpu.hl w :=
  StepDoes.last hf _ hw hn fun s _ hq => by
    obtain rfl := State.scratch_of_cur hq
    exact ⟨rfl, s.write_cpu .., _, hg _, Stores.of_write ..⟩

end kinds

/-- Settles O43: RES puts the bit by `resBit` and SET by `setBit`, of a register or of the byte at HL. -/
theorem bitResetAndSet : Obligations.BitResetAndSet := by
  intro set b
  rw [ofNat_eq_code3]
  cases set with
  | false =>
    refine ⟨fun dst => .puts_bit_r8 (resBit_putsBit b) (decodeCb_form (f := .resR b dst) rfl rfl) rfl rfl, ?_⟩
    have hf := decodeCb_form (f := .resM b) rfl rfl
    exact ⟨.second hf rfl, .of_form (n := 4) hf rfl rfl (by omega), .puts_bit_hl (resBit_putsBit b) hf rfl rfl⟩
  | true =>
    refine ⟨fun dst => .puts_bit_r8 (setBit_putsBit b) (decodeCb_form (f := .setR b dst) rfl rfl) rfl rfl, ?_⟩
    have hf := decodeCb_form (f := .setM b) rfl rfl
    exact ⟨.second hf rfl, .of_form (n := 4) hf rfl rfl (by omega), .puts_bit_hl (setBit_putsBit b) hf rfl rfl⟩

end Sys2Proof.Machine
end
section
/-! PROOFS. The jumps, step by step of their tables, and the conditions they decide on (46_control.md R360 to R365). -/

namespace Sys2Proof.Machine

/-- A last step that sets PC to a target and does nothing else (R363 to R365). A `dest` that is the step's target by
definition needs no argument. -/
theorem StepDoes.jumps {i : Instr} {f : Form} {k : Nat} {target : State → Word} {dest : State → Scratch → Word}
    (hf : i.form = f) (hw : stepAt (formTable f) k = some (act fun s => s.setPc (target s)))
    (hn : (formTable f).length = k)
    (ht : ∀ s x, s.cur = some ⟨.instr x, k⟩ → target s = dest s x := by intros; rfl) :
    StepDoes i k fun s x t => t = { s with cpu := { s.cpu with pc := dest s x }, cur := none } :=
  StepDoes.last hf _ hw hn fun s x hq => by
    rw [← ht s x hq]
    rfl

/-- The target of a relative jump, from the displacement in the scratch (R364). -/
theorem State.relTarget_of_cur {s : State} {x : Scratch} {k : Nat} (h : s.cur = some ⟨.instr x, k⟩) :
    s.cpu.pc + sext16 s.scratch.tmp = s.cpu.pc + x.tmp.signExtend 16 := by
  rw [State.scratch_of_cur h, sext16]

/-- Settles O44: the conditions are flags of F by definition, then form by form of the tables. -/
theorem jumps : Obligations.Jumps := by
  refine ⟨fun p => ⟨rfl, rfl, rfl, rfl⟩, ?_, fun cc => ?_, ?_, ?_, fun cc => ?_⟩
  · exact ⟨.jp_nn, rfl, rfl, .first rfl rfl, .of_form (n := 4) rfl rfl rfl (by omega),
      .of_form (n := 4) rfl rfl rfl (by omega), .jumps_hiLo rfl rfl rfl⟩
  · exact Primary.of_form (.jpCc cc) (by cases cc <;> rfl) rfl rfl fun _ hf =>
      ⟨.first hf rfl, .of_form (n := 4) hf rfl rfl (by omega),
        .of_form (n := 4) hf rfl rfl (by omega) fun _ _ => rfl, .jumps_hiLo hf rfl rfl⟩
  · exact ⟨.jp_hl, rfl, rfl, .jumps rfl rfl rfl⟩
  · exact ⟨.jr_e, rfl, rfl, .first rfl rfl, .of_form (n := 3) rfl rfl rfl (by omega),
      .jumps rfl rfl rfl fun _ _ => State.relTarget_of_cur⟩
  · exact Primary.of_form (.jrCc cc) (by cases cc <;> rfl) rfl rfl fun _ hf =>
      ⟨.first hf rfl, .of_form (n := 3) hf rfl rfl (by omega) fun _ _ => rfl,
        .jumps hf rfl rfl fun _ _ => State.relTarget_of_cur⟩

end Sys2Proof.Machine
end

section
/-! PROOFS. The system instructions and the illegal bytes, by the one step of their tables (47_system.md R390
to R397). -/

namespace Sys2Proof.Machine

/-! ### The step kinds of the system instructions -/

section kinds

variable {i : Instr} {f : Form} {k : Nat}

/-- A last step with no effect (R390). -/
theorem StepDoes.only_ends (hf : i.form = f) (hw : stepAt (formTable f) k = some idle) (hn : (formTable f).length = k) :
    StepDoes i k fun s _ t => t = { s with cur := none } :=
  StepDoes.last hf _ hw hn fun _ _ _ => rfl

/-- A last step that changes IME and nothing else (R395, R396). -/
theorem StepDoes.sets_ime {g : State → State} {v : State → Ime} (hf : i.form = f)
    (hw : stepAt (formTable f) k = some (act g)) (hn : (formTable f).length = k) (hg : ∀ s, g s = s.setIme (v s)) :
    StepDoes i k fun s _ t => t = { s with ime := v s, cur := none } :=
  StepDoes.last hf _ hw hn fun s _ _ => by
    rw [hg s]
    rfl

/-- A step that only raises a fatal condition records it and changes nothing else (R391, R394, R441). -/
theorem StepDoes.raises_fatal {kind : FatalKind} (hf : i.form = f)
    (hw : stepAt (formTable f) k = some fun s => .fatal kind s) :
    StepDoes i k fun s _ t => t = { s with fault := some kind } :=
  StepDoes.of_form hf _ hw fun _ _ _ => ⟨_, rfl, rfl⟩

end kinds

/-! ### NOP, DI and EI -/

/-- EI's work is a write to IME, of the value it already has where it is not Disabled (R396). -/
theorem State.ei_eq_setIme (s : State) :
    (if s.ime = .disabled then s.setIme .scheduledInitial else s) =
      s.setIme (if s.ime = .disabled then .scheduledInitial else s.ime) := by
  split <;> rfl

/-- Settles O47, instruction by instruction. -/
theorem nopDiEi : Obligations.NopDiEi :=
  ⟨⟨.nop, rfl, rfl, .only_ends rfl rfl rfl⟩,
    ⟨.di, rfl, rfl, .sets_ime rfl rfl rfl fun _ => rfl⟩,
    ⟨.ei, rfl, rfl, .sets_ime rfl rfl rfl State.ei_eq_setIme⟩⟩

/-! ### HALT -/

/-- The halt-bug condition in the terms of the claims (R393). -/
theorem State.haltBug_iff {s : State} : s.haltBug = true ↔ s.ime ≠ .enabled ∧ pending s ≠ 0 := by
  simp [State.haltBug, State.pend, pending]

section halt

variable {s : State} {x : Scratch} (hq : s.cur = some ⟨.instr x, 1⟩)
include hq

/-- HALT's step is the one of its table. -/
theorem exec_halt_of_cur : exec .halt s =
    (if s.haltBug then Flow.fatal .haltBugNotModelled s else .go { s with halted := true }).result 1 1 :=
  (exec_of_form (i := .halt) rfl hq rfl :)

/-- HALT outside the halt-bug condition (R392). -/
theorem exec_halt_of_not_haltBug (h : ¬ s.haltBug = true) :
    exec .halt s = .next { s with halted := true, cur := none } := by
  rw [exec_halt_of_cur hq, if_neg h]
  rfl

/-- HALT in the halt-bug condition (R393). -/
theorem exec_halt_of_haltBug (h : s.haltBug = true) :
    exec .halt s = .next { s with fault := some .haltBugNotModelled } := by
  rw [exec_halt_of_cur hq, if_pos h]
  rfl

end halt

/-- Settles O48: the two clauses are the two sides of the halt-bug condition. -/
theorem haltAndHaltBug : Obligations.HaltAndHaltBug := by
  refine ⟨.halt, rfl, rfl, fun s x hq => ⟨fun h => ?_, fun he hp => ?_⟩⟩
  · refine exec_halt_of_not_haltBug hq fun hb => ?_
    obtain ⟨he, hp⟩ := State.haltBug_iff.mp hb
    exact h.elim he hp
  · exact exec_halt_of_haltBug hq (State.haltBug_iff.mpr ⟨he, hp⟩)

/-! ### STOP and the illegal bytes -/

/-- Settles O49: STOP by its table, and every illegal byte by the table all of them share. -/
theorem stopAndIllegalAreFatal : Obligations.StopAndIllegalAreFatal :=
  ⟨⟨.stop, rfl, rfl, .raises_fatal rfl rfl⟩, fun op hop =>
    Primary.of_form (.illegal op) rfl rfl (List.contains_iff_mem.mpr hop) fun _ hf => .raises_fatal hf rfl⟩

end Sys2Proof.Machine
end

section
/-! PROOFS. Fatal conditions stop the machine, the first fetch after a launch, and the latency of EI (60_exceptions.md R415
to R418, R440; 70_reset_and_hazards.md R481). -/

namespace Sys2Proof.Machine

/-! ### Fatal conditions -/

/-- No M-cycle runs once a fatal condition is recorded (R440). -/
theorem step_of_faulted {s : State} {kind : FatalKind} (h : s.fault = some kind) : step s = .fault (.fatal kind) := by
  simp [step, mcycle, h]

/-- Settles O8: the M-cycle looks at the fault before anything else. -/
theorem faultedMachineIsStuck : Obligations.FaultedMachineIsStuck :=
  fun _ => ⟨fun _ => step_of_faulted, fun _ => running_of_step⟩

/-! ### The first fetch -/

/-- Settles O12: a launch is at a boundary where the decision is to fetch, and address 0 lies under the boot ROM. -/
theorem firstStepFetchesBootRom : Obligations.FirstStepFetchesBootRom := by
  intro p r op at1
  obtain ⟨hinstr, -, hcb⟩ := stepRunsFetchedInstruction (State.launch p) rfl rfl rfl nofun
  have hcpu : r.cpu = (State.launch p).cpu := State.takeInput_cpu _
  have hpc : r.cpu.pc = 0 := by rw [hcpu]; rfl
  have hop : r.read r.cpu.pc = op := by
    rw [hpc, State.read_bootRom (State.takeInput_bootMapped _) (by decide), State.takeInput_boot]
    rfl
  rw [hop, hpc] at hinstr hcb
  cases hd : decodePrimary op with
  | instr i => exact hinstr i hd
  | cbPrefix => exact hcb hd

/-! ### The latency of EI -/

theorem State.imeTick_eq (s : State) : s.imeTick = { s with ime := s.ime.tick } := rfl

/-- Two opcode bytes that decode to instructions are the same byte when those are the same instruction (R137). -/
theorem eq_iff_of_decodePrimary {op op' : Byte} {i j : Instr} (hi : decodePrimary op = .instr i)
    (hj : decodePrimary op' = .instr j) : op = op' ↔ i = j := by
  constructor
  · rintro rfl
    exact Decoded.instr.inj (hi.symm.trans hj)
  · rintro rfl
    exact (decodePrimary_eq_instr_iff.mp hi).1.symm.trans (decodePrimary_eq_instr_iff.mp hj).1

/-- What is known of a step of an instruction holds of the state it answers. -/
theorem StepDoes.of_exec {i : Instr} {k : Nat} {R : State → Scratch → State → Prop} (h : StepDoes i k R) {s t : State}
    {x : Scratch} (hq : s.cur = some ⟨.instr x, k⟩) (he : exec i s = .next t) : R s x t := by
  obtain ⟨u, hu, hR⟩ := h s x hq
  obtain rfl : u = t := Host.Outcome.next.inj (hu.symm.trans he)
  exact hR

/-- EI's one step (R396). -/
theorem exec_ei_of_cur {s : State} {x : Scratch} (hq : s.cur = some ⟨.instr x, 1⟩) :
    exec .ei s = .next { s with ime := if s.ime = .disabled then .scheduledInitial else s.ime, cur := none } := by
  obtain ⟨t, ht, rfl⟩ := StepDoes.sets_ime (i := .ei) rfl rfl rfl State.ei_eq_setIme s x hq
  exact ht

/-- IME after the first step of an instruction (R370, R395, R396). -/
theorem exec_first_ime {i : Instr} {s t : State} {x : Scratch} (hq : s.cur = some ⟨.instr x, 1⟩)
    (h : exec i s = .next t) :
    t.ime =
      if i = .di then .disabled
      else if i = .reti then .scheduledInitial
      else if i = .ei ∧ s.ime = .disabled then .scheduledInitial
      else s.ime := by
  by_cases hdi : i = .di
  · subst hdi
    rw [StepDoes.of_exec (.sets_ime (v := fun _ => .disabled) rfl rfl rfl fun _ => rfl) hq h, if_pos rfl]
  by_cases hreti : i = .reti
  · subst hreti
    rw [StepDoes.of_exec (.schedules_ime (n := 4) rfl rfl rfl (by omega)) hq h, if_neg hdi, if_pos rfl]
  rw [if_neg hdi, if_neg hreti]
  by_cases hei : i = .ei
  · subst hei
    cases (exec_ei_of_cur hq).symm.trans h
    simp
  · rw [if_neg fun he => hei he.1]
    exact (controlStateWriters i s t h).1 hei hdi hreti

/-- The ticks follow a step that met no fatal condition (R160). -/
theorem ticksAfter_next {u : State} (h : u.fault = none) : TicksAfter (.next u) = .next u.tick :=
  congrArg Host.Outcome.next (if_pos h)

/-- An M-cycle that met no fatal condition is its step and then the ticks (R160). -/
theorem eq_tick_of_ticksAfter {r : Result} {t : State} (h : TicksAfter r = .next t) (ht : t.fault = none) :
    ∃ u, r = .next u ∧ t = u.tick := by
  cases r with
  | next u =>
    by_cases hu : u.fault = none
    · rw [ticksAfter_next hu] at h
      exact ⟨u, rfl, (Host.Outcome.next.inj h).symm⟩
    · have h : (if u.fault = none then u.tick else u) = t := Host.Outcome.next.inj h
      rw [if_neg hu] at h
      exact absurd (h ▸ ht) hu
  | fault r => cases h
  | refused r => cases h

/-- The step of an EI with IME Disabled (R396, R416, R417). -/
theorem step_ei {s : State} (hf : s.fault = none) (hc : s.cur = none) (hh : s.halted = false) (hi : s.ime = .disabled)
    (hop : s.takeInput.read s.cpu.pc = 0xFB) :
    ∃ t, step s = .next t ∧ t.fault = none ∧ t.cur = none ∧ t.ime = .scheduledNext ∧ t.cpu.pc = s.cpu.pc + 1 := by
  obtain ⟨hinstr, -, -⟩ := stepRunsFetchedInstruction s hf hc hh (by simp [hi])
  rw [s.takeInput_cpu] at hinstr
  rw [hinstr .ei (by rw [hop]; rfl), exec_ei_of_cur rfl]
  refine ⟨_, ticksAfter_next (s.takeInput_fault.trans hf), ?_, ?_, ?_, ?_⟩
  · simp [hf]
  · rw [State.tick_cur]
  · simp [hi, Ime.tick]
  · rw [State.tick_cpu]

/-- The step after EI's (R416 to R418): the decision is to fetch, and the first step of what it fetches goes before the
tick that enables IME. -/
theorem step_after_ei {s t : State} (hf : s.fault = none) (hc : s.cur = none) (hh : s.halted = false)
    (hi : s.ime = .scheduledNext) (h : step s = .next t) (ht : t.fault = none) :
    t.ime =
      if s.takeInput.read s.cpu.pc = 0xF3 then .disabled
      else if s.takeInput.read s.cpu.pc = 0xD9 then .scheduledNext
      else .enabled := by
  obtain ⟨hinstr, -, hcb⟩ := stepRunsFetchedInstruction s hf hc hh (by simp [hi])
  rw [s.takeInput_cpu] at hinstr hcb
  cases hd : decodePrimary (s.takeInput.read s.cpu.pc) with
  | instr i =>
    obtain ⟨u, hu, rfl⟩ := eq_tick_of_ticksAfter ((hinstr i hd).symm.trans h) ht
    have hdi := eq_iff_of_decodePrimary hd (show decodePrimary 0xF3 = .instr .di from rfl)
    have hreti := eq_iff_of_decodePrimary hd (show decodePrimary 0xD9 = .instr .reti from rfl)
    rw [State.tick_ime, exec_first_ime rfl hu]
    simp only [s.takeInput_ime, hi, ← hdi, ← hreti, apply_ite Ime.tick, reduceCtorEq, and_false, if_false]
    rfl
  | cbPrefix =>
    obtain ⟨u, hu, rfl⟩ := eq_tick_of_ticksAfter ((hcb hd).symm.trans h) ht
    cases hu
    rw [decodePrimary_eq_cbPrefix_iff.mp hd, State.tick_ime]
    simp [hi, Ime.tick]

/-- Settles O53: the IME tick, EI's own step, and the step after it. -/
theorem eiLatency : Obligations.EiLatency := by
  refine ⟨fun s => ?_, fun _ => step_ei, fun _ _ => step_after_ei⟩
  rw [s.imeTick_eq]
  cases s.ime <;> rfl

end Sys2Proof.Machine
end

section
/-! PROOFS. The timer's register writes and its tick, and the M-cycle between an overflow and the reload (60_exceptions.md
R431 to R436). -/

namespace Sys2Proof.Machine

/-! ### The falling edge and the tick -/

/-- The divider bit each TAC selects, by its number (R45). -/
theorem selBit_eq : ∀ tac : BitVec 3, selBit tac =
    if tac.toNat % 4 = 0 then 9 else if tac.toNat % 4 = 1 then 3 else if tac.toNat % 4 = 2 then 5 else 7 := by
  decide

theorem Timer.edge_eq (t : Timer) (old : Bool) :
    t.edge old = if old = true ∧ t.sig = false then t.incTima else t := by
  simp [Timer.edge]

/-- A divider of 0 gives no signal (R46). -/
theorem timerSig_zero (tac : BitVec 3) : timerSig 0 tac = false := by
  simp [timerSig]

/-- A write to DIV is an increment if the signal was up (R433). -/
theorem Timer.writeDiv_eq (t : Timer) :
    t.writeDiv = if t.sig = true then Timer.incTima { t with div := 0 } else { t with div := 0 } := by
  have h : Timer.sig { t with div := 0 } = false := timerSig_zero t.tac
  simp only [Timer.writeDiv, Timer.edge_eq, h, and_true]

/-- A request that is made on a condition. -/
theorem State.request_ite (s : State) (c : Bool) (bits : BitVec 5) :
    s.request (if c then bits else 0) = { s with iflag := if c then s.iflag ||| bits else s.iflag } := by
  cases c <;> simp [State.request]

theorem State.timerTick_eq (s : State) :
    s.timerTick =
      { s with
        timer := s.timer.tick
        iflag := if s.timer.reloadDue then s.iflag ||| timerBit else s.iflag } :=
  State.request_ite { s with timer := s.timer.tick } s.timer.reloadDue timerBit

theorem State.write_div (s : State) (v : Byte) : s.write 0xFF04 v = { s with timer := s.timer.writeDiv } := rfl

theorem State.write_tac (s : State) (v : Byte) : s.write 0xFF07 v = { s with timer := s.timer.writeTac v } := rfl

/-- The low bits of a byte, by its number (R47). -/
theorem extractLsb'_three (v : Byte) : v.extractLsb' 0 3 = BitVec.ofNat 3 v.toNat := by
  simp [BitVec.extractLsb']

/-- Settles O55: the writes and the tick by the falling edge. -/
theorem timerWritesAndTick : Obligations.TimerWritesAndTick := by
  refine ⟨fun div tac => ?_, fun _ => rfl, fun s v => ?_, fun s v => ?_, fun s => ?_⟩
  · rw [timerSig, selBit_eq]
  · rw [s.write_div, Timer.writeDiv_eq]
    rfl
  · rw [s.write_tac, Timer.writeTac, Timer.edge_eq, extractLsb'_three]
    rfl
  · rw [s.timerTick_eq, Timer.tick, Timer.edge_eq]
    rfl

/-! ### From an overflow to the reload (R435) -/

/-- A reload changes neither the divider nor TAC, so the edge is the one the timer had before it. -/
theorem Timer.tick_eq (t : Timer) :
    t.tick =
      let u := { t.reload with div := t.div + 4 }
      let w := if t.falls = true then u.incTima else u
      { w with reloadDue := w.reloadPending } := by
  cases hd : t.reloadDue <;>
    simp [Timer.tick, Timer.reload, Timer.edge, Timer.falls, Timer.sig, hd]

/-- A tick in which TIMA overflows: it reads 0, and the reload is due in the next tick (R431, R432). -/
theorem Timer.tick_of_overflow {t : Timer} (hd : t.reloadDue = false) (hm : t.tima = 0xFF) (hf : t.falls = true) :
    t.tick = { t with div := t.div + 4, tima := 0, reloadPending := true, reloadDue := true } := by
  simp [Timer.tick_eq, Timer.reload, Timer.incTima, hd, hm, hf]

/-- A tick without a falling edge and without a reload (R432). -/
theorem Timer.tick_of_not_due {t : Timer} (hd : t.reloadDue = false) (hf : t.falls = false) :
    t.tick = { t with div := t.div + 4, reloadDue := t.reloadPending } := by
  simp [Timer.tick_eq, Timer.reload, hd, hf]

/-- A tick without a falling edge in which a reload is due (R432). -/
theorem Timer.tick_of_due {t : Timer} (hd : t.reloadDue = true) (hf : t.falls = false) :
    t.tick = { t with div := t.div + 4, tima := t.tma, reloadPending := false, reloadDue := false } := by
  simp [Timer.tick_eq, Timer.reload, hd, hf]

/-- A signal that is down does not fall (R46). -/
theorem Timer.falls_of_not_sig {t : Timer} (h : t.sig = false) : t.falls = false := by
  simp [Timer.falls, h]

/-- A divider bit that one tick sets stays set in the next: the bits below it are too low to carry into it. -/
theorem getLsbD_selBit_add_eight {div : Word} (tac : BitVec 3) (h0 : div.getLsbD (selBit tac) = false)
    (h4 : (div + 4).getLsbD (selBit tac) = true) : (div + 4 + 4).getLsbD (selBit tac) = true := by
  simp only [← BitVec.testBit_toNat, Nat.testBit_eq_decide_div_mod_eq, decide_eq_true_eq, decide_eq_false_iff_not,
    BitVec.toNat_add, show (4 : Word).toNat = 4 from rfl] at h0 h4 ⊢
  obtain ⟨hs, -⟩ | ⟨hs, -⟩ | ⟨hs, -⟩ | ⟨hs, -⟩ := selBit_timaPeriod_cases tac
  all_goals
    rw [hs] at h0 h4 ⊢
    omega

/-- A signal that is down does not fall in the next tick either. -/
theorem Timer.falls_add_four_of_not_sig {t : Timer} (h : t.sig = false) :
    Timer.falls { t with div := t.div + 4 } = false := by
  cases he : t.tac[2] with
  | false => simp [Timer.falls, Timer.sig, timerSig, he]
  | true =>
    have h0 : t.div.getLsbD (selBit t.tac) = false := by simpa [Timer.sig, timerSig, he] using h
    simpa [Timer.falls, Timer.sig, timerSig, he] using getLsbD_selBit_add_eight t.tac h0

/-- The edge of a timer whose TIMA is 0xFF, seen by TIMA: it overflowed, with the signal now down (R431). -/
theorem Timer.edge_of_overflow {t : Timer} {old : Bool} (hm : t.tima = 0xFF) (h : (t.edge old).tima = 0) :
    t.sig = false ∧ t.edge old = { t with tima := 0, reloadPending := true } := by
  rw [Timer.edge_eq] at h ⊢
  by_cases he : old = true ∧ t.sig = false
  · rw [if_pos he, Timer.incTima, if_pos hm]
    exact ⟨he.2, rfl⟩
  · rw [if_neg he, hm] at h
    cases h

/-- A write to DIV or TAC that makes TIMA overflow leaves the signal down and a reload pending, but not due (R433
to R435). -/
theorem State.write_of_overflow {s : State} {a : Word} {v : Byte} (ha : a = 0xFF04 ∨ a = 0xFF07)
    (hm : s.timer.tima = 0xFF) (h : (s.write a v).timer.tima = 0) :
    ∃ t : Timer, s.write a v = { s with timer := t } ∧ t.sig = false ∧ t.tima = 0 ∧ t.reloadPending = true ∧
      t.reloadDue = s.timer.reloadDue ∧ t.tma = s.timer.tma := by
  obtain rfl | rfl := ha
  · obtain ⟨hs, he⟩ := Timer.edge_of_overflow (t := { s.timer with div := 0 }) hm h
    exact ⟨{ s.timer with div := 0, tima := 0, reloadPending := true }, congrArg (fun t => { s with timer := t }) he, hs,
      rfl, rfl, rfl, rfl⟩
  · obtain ⟨hs, he⟩ := Timer.edge_of_overflow (t := { s.timer with tac := v.extractLsb' 0 3 }) hm h
    exact ⟨{ s.timer with tac := v.extractLsb' 0 3, tima := 0, reloadPending := true },
      congrArg (fun t => { s with timer := t }) he, hs, rfl, rfl, rfl, rfl⟩

/-- Settles O56: the tick of an overflow and the one after it, and the two ticks after a write that made one. -/
theorem overflowTiming : Obligations.OverflowTiming := by
  refine ⟨fun s hp hd hm h0 h4 => ?_, fun s a v ha hp hd hm h0 => ?_⟩
  · have hu : s.timer.tick = _ := Timer.tick_of_overflow hd hm (by
      rw [Timer.falls, Timer.sig, Timer.sig, h0, h4]
      rfl)
    have ht := Timer.tick_of_due (t := s.timer.tick) (by rw [hu]) (by rw [hu]; exact Timer.falls_of_not_sig h4)
    simp only [State.timerTick_eq, ht]
    simp [hu, hd, timerBit]
  · obtain ⟨w, hw, hs, hwm, hwp, hwd, hwt⟩ := State.write_of_overflow ha hm h0
    have hu : w.tick = _ := Timer.tick_of_not_due (hwd.trans hd) (Timer.falls_of_not_sig hs)
    have ht := Timer.tick_of_due (t := w.tick) (by rw [hu]; exact hwp)
      (by rw [hu]; exact Timer.falls_add_four_of_not_sig hs)
    simp only [hw, State.timerTick_eq, ht]
    simp [hu, hwd, hd, hwm, hwp, hwt, timerBit]

end Sys2Proof.Machine
end

section
/-! PROOFS. The PPU and the joypad at their defaults, and the DMA controller (60_exceptions.md R442 to R446, R450
to R452). -/

namespace Sys2Proof.Machine

/-! ### The default PPU and joypad -/

/-- A write to an address of the PPU goes to the PPU (R72, R450). -/
theorem State.write_ppu {s : State} {a : Word} (h : s.ppuOwns a = true) (v : Byte) :
    s.write a v = { s with ppu := (s.write a v).ppu } := by
  cases hr : s.region a with
  | ppuRegister | vram | oam => simp only [State.write, hr]
  | _ => simp [State.ppuOwns, hr] at h

/-- The default PPU keeps a byte written at one of its addresses (R450). -/
theorem State.keeps_of_ppuOwns {s : State} {a : Word} (hn : s.ppu.model = .null) (h : s.ppuOwns a = true) :
    s.keeps a = true := by
  cases hr : s.region a with
  | ppuRegister | vram | oam => simp [State.keeps, hr, hn]
  | _ => simp [State.ppuOwns, hr] at h

/-- A write to the default PPU changes no other address (R83, R450). -/
theorem State.not_mayAlsoChange_of_ppuOwns {s : State} {a : Word} (hn : s.ppu.model = .null)
    (h : s.ppuOwns a = true) (b : Word) : ¬ s.MayAlsoChange a b := by
  rintro (⟨rfl | rfl, -⟩ | ⟨rfl, -⟩ | ⟨he, -⟩)
  · cases h
  · cases h
  · rw [State.ppuOwns, s.region_unmap] at h
    cases h
  · rw [hn] at he
    cases he

/-- A read after a write to the default PPU (R450). -/
theorem State.read_write_ppu {s : State} {a : Word} (hc : s.Canonical) (hn : s.ppu.model = .null)
    (h : s.ppuOwns a = true) (v : Byte) (b : Word) : (s.write a v).read b = if b = a then v else s.read b := by
  by_cases hb : b = a
  · rw [hb, if_pos rfl]
    exact State.read_write_same v hc (State.keeps_of_ppuOwns hn h)
  · rw [if_neg hb]
    exact s.read_write_other v hb (State.not_mayAlsoChange_of_ppuOwns hn h b)

/-- Two request bits lie at positions 0 and 1 (R411). -/
theorem getElem_request_bits : ∀ (x y : Bool) (k : Fin 5), 2 ≤ k.val →
    (0#3 ++ BitVec.ofBool x ++ BitVec.ofBool y)[k] = false := by
  decide

/-- A PPU tick requests at most IF[0] and IF[1] (R451). -/
theorem Ppu.tickIrq_high (p : Ppu) (k : Fin 5) (h : 2 ≤ k.val) : p.tickIrq[k] = false := by
  unfold Ppu.tickIrq
  split
  · simp
  · exact getElem_request_bits _ _ k h

/-- The default PPU's tick does nothing (R450). -/
theorem State.ppuTick_of_null {s : State} (h : s.ppu.model = .null) : s.ppuTick = s := by
  simp [State.ppuTick, State.request, Ppu.tick, Ppu.tickIrq, h]

theorem State.ppuTick_iflag (s : State) : s.ppuTick.iflag = s.iflag ||| s.ppu.tickIrq := rfl

/-- Settles O21: the default PPU is memory, any PPU's tick requests bits of IF, and the default joypad is not there. -/
theorem defaultPpuAndJoypad : Obligations.DefaultPpuAndJoypad := by
  refine ⟨fun s a v hc hn ho => ⟨?_, fun b hb => ?_, State.write_ppu ho v⟩, fun s => State.ppuTick_of_null,
    fun s => ⟨rfl, fun k => ⟨fun hk => ?_, fun hk => ?_⟩⟩, fun s v hj => ⟨?_, ?_⟩⟩
  · rw [State.read_write_ppu hc hn ho, if_pos rfl]
  · rw [State.read_write_ppu hc hn ho, if_neg hb]
  · rw [s.ppuTick_iflag]
    simpa using .inl hk
  · have hz : s.ppu.tickIrq[k.val] = false := s.ppu.tickIrq_high k hk
    rw [s.ppuTick_iflag]
    simp [hz]
  · show s.joypad.read = 0xFF
    rw [Joypad.read, hj]
  · show { s with joypad := s.joypad.write v } = s
    rw [Joypad.write, hj]

/-! ### The DMA tick -/

section dmaTick

variable {s : State}

theorem State.dmaTick_of_off (h : s.dma.status = .off) : s.dmaTick = s := by
  simp only [State.dmaTick, h]

theorem State.dmaTick_of_scheduledInitial (h : s.dma.status = .scheduledInitial) :
    s.dmaTick = { s with dma := { s.dma with status := .scheduledNext } } := by
  simp only [State.dmaTick, h]

theorem State.dmaTick_of_scheduledNext (h : s.dma.status = .scheduledNext) :
    s.dmaTick = { s with dma := { s.dma with status := .inProgress } } := by
  simp only [State.dmaTick, h]

theorem State.dmaTick_of_inProgress (h : s.dma.status = .inProgress) : s.dmaTick = s.dmaCopy := by
  simp only [State.dmaTick, h]

end dmaTick

theorem zext16_eq (v : Byte) : zext16 v = BitVec.ofNat 16 v.toNat :=
  BitVec.eq_of_toNat_eq (by simp [zext16])

/-- The copy that brings the progress to 160 is that of byte 159 (R443). -/
theorem add_one_eq_160_iff (p : Byte) : p + 1 = 160 ↔ p = 159 := by
  constructor <;> intro h <;> bv_omega

/-- A write to the DMA register (R72, R442). -/
theorem State.write_dmaReg (s : State) (v : Byte) :
    s.write 0xFF46 v =
      if v = 0 then { s with dma := { s.dma with reg := 0 } }
      else { s with dma := { src := v ++ 0#8, progress := 0, status := .scheduledInitial, reg := v } } := by
  show { s with dma := s.dma.writeReg v } = _
  unfold Dma.writeReg Dma.start
  split
  · rename_i hv
    rw [hv]
  · rfl

/-- Settles O58: the write to the register, and the tick status by status. -/
theorem dmaStartAndTick : Obligations.DmaStartAndTick := by
  refine ⟨State.write_dmaReg, fun s => ⟨State.dmaTick_of_off, State.dmaTick_of_scheduledInitial,
    State.dmaTick_of_scheduledNext, fun h => ?_⟩⟩
  rw [State.dmaTick_of_inProgress h]
  simp only [State.dmaCopy, zext16_eq, add_one_eq_160_iff]

/-! ### A whole transfer -/

/-- The addresses of OAM (R72, R73). -/
theorem State.region_oam_iff {s : State} {a : Word} :
    s.region a = .oam ↔ 0xFE00 ≤ a.toNat ∧ a.toNat < 0xFE00 + 160 := by
  constructor
  · intro h
    have hh := region_holds s.bootMapped a
    rw [← State.region, h, Region.Holds, within_iff] at hh
    omega
  · rintro ⟨hl, hu⟩
    rw [State.region, addressRanges]
    simp (disch := omega) only [if_pos, if_neg]

/-- A copy to OAM is a bus write there, but for the controller's own state (R443). -/
theorem State.dmaCopy_eq_write {s : State} (h : s.region (0xFE00 + zext16 s.dma.progress) = .oam) :
    s.dmaCopy =
      { s.write (0xFE00 + zext16 s.dma.progress) (s.read (s.dma.src + zext16 s.dma.progress)) with
        dma := s.dmaCopy.dma } := by
  simp only [State.write, h, State.dmaCopy]

/-- A copy changes the one byte of OAM that the progress points at (R443). -/
theorem State.read_dmaCopy {s : State} (hc : s.Canonical) (hn : s.ppu.model = .null) (hp : s.dma.progress.toNat < 160)
    (a : Word) :
    s.dmaCopy.read a =
      if a = 0xFE00 + zext16 s.dma.progress then s.read (s.dma.src + zext16 s.dma.progress) else s.read a := by
  have hr : s.region (0xFE00 + zext16 s.dma.progress) = .oam := by
    rw [State.region_oam_iff, zext16_eq]
    bv_omega
  rw [State.dmaCopy_eq_write hr, ← State.read_write_ppu hc hn (by rw [State.ppuOwns, hr])]
  exact State.read_congr (hg := fun _ => by rw [State.write, hr]; rfl)

/-- `n` bytes of a transfer that started in `s₀` are copied (R443): the first `n` bytes of OAM are those that the bus read
at the source, and every other address reads as it did. -/
structure DmaCopied (s₀ s : State) (n : Nat) : Prop where
  src : s.dma.src = s₀.dma.src
  progress : s.dma.progress.toNat = n
  status : s.dma.status = if n = 160 then .off else .inProgress
  null : s.ppu.model = .null
  canonical : s.Canonical
  read : ∀ a : Word, s.read a =
    if 0xFE00 ≤ a.toNat ∧ a.toNat < 0xFE00 + n then s₀.read (s₀.dma.src + (a - 0xFE00)) else s₀.read a

/-- The two ticks of the start copy nothing (R442, R443). -/
theorem dmaCopied_start {s : State} (hc : s.Canonical) (hn : s.ppu.model = .null)
    (hs : s.dma.status = .scheduledInitial) (hp : s.dma.progress = 0) : DmaCopied s (s.dmaTick.dmaTick) 0 := by
  rw [State.dmaTick_of_scheduledInitial hs, State.dmaTick_of_scheduledNext rfl]
  refine ⟨rfl, by simp [hp], rfl, hn, hc, fun a => ?_⟩
  rw [if_neg (by omega)]
  exact State.read_congr

/-- A DMA tick writes memory only through the PPU (R443). -/
theorem State.Canonical.dmaTick {s : State} (h : s.Canonical) : s.dmaTick.Canonical := by
  obtain ⟨hram, hrom, hboot, hppu, hin⟩ := h
  unfold State.dmaTick
  split
  · exact ⟨hram, hrom, hboot, hppu, hin⟩
  · exact ⟨hram, hrom, hboot, hppu, hin⟩
  · exact ⟨hram, hrom, hboot, hppu, hin⟩
  · exact ⟨hram, hrom, hboot, hppu.write _ _ _, hin⟩

/-- The source of byte `n` lies outside the part of OAM already written, also where the source is OAM itself (R442). -/
theorem not_copied_source {src : Word} {n : Nat} (h0 : lo src = 0) (hn : n < 160) :
    ¬ (0xFE00 ≤ (src + BitVec.ofNat 16 n).toNat ∧ (src + BitVec.ofNat 16 n).toNat < 0xFE00 + n) := by
  have hlo : src.toNat % 256 = 0 := by
    have := congrArg BitVec.toNat h0
    rwa [lo, BitVec.extractLsb'_toNat] at this
  rw [BitVec.toNat_add, BitVec.toNat_ofNat]
  omega

/-- The next tick copies one byte more, whichever page the source is (R443). -/
theorem DmaCopied.succ {s₀ s : State} {n : Nat} (h : DmaCopied s₀ s n) (hn : n < 160) (h0 : lo s₀.dma.src = 0) :
    DmaCopied s₀ s.dmaTick (n + 1) := by
  obtain ⟨hsrc, hp, hst, hnull, hc, hread⟩ := h
  have hc' := hc.dmaTick
  rw [State.dmaTick_of_inProgress (by rw [hst, if_neg (by omega)])] at hc' ⊢
  have hp' : (s.dma.progress + 1).toNat = n + 1 := by bv_omega
  refine ⟨hsrc, hp', ?_, (Ppu.write_model _ _ _ _).trans hnull, hc', fun a => ?_⟩
  · have h160 : s.dma.progress + 1 = 160 ↔ n + 1 = 160 := by
      rw [← hp', ← BitVec.toNat_inj]
      rfl
    simp only [State.dmaCopy, h160]
  · rw [State.read_dmaCopy hc hnull (by omega), zext16_eq, hp, hsrc, hread, hread a,
      if_neg (not_copied_source h0 hn)]
    by_cases ha : a = 0xFE00 + BitVec.ofNat 16 n
    · rw [if_pos ha, if_pos (by bv_omega), ha, BitVec.add_comm 0xFE00, BitVec.add_sub_cancel]
    · rw [if_neg ha]
      exact if_congr (by bv_omega) rfl rfl

/-- `n + 2` ticks of a transfer that is just starting copy `n` bytes (R444). -/
theorem dmaCopied_iterate {s : State} (hc : s.Canonical) (hnull : s.ppu.model = .null)
    (hs : s.dma.status = .scheduledInitial) (hp : s.dma.progress = 0) (h0 : lo s.dma.src = 0) {n : Nat} (hn : n ≤ 160) :
    DmaCopied s (State.dmaTick^[n + 2] s) n := by
  induction n with
  | zero => exact dmaCopied_start hc hnull hs hp
  | succ n ih =>
    rw [Nat.add_right_comm, Function.iterate_succ_apply']
    exact (ih (by omega)).succ (by omega) h0

/-- Settles O59: the first two ticks are the start, and tick `n + 2` ends with `n` bytes copied. -/
theorem dmaTransfer : Obligations.DmaTransfer := by
  intro s v hc hnull hv s₀
  have hw : s₀ = { s with dma := { src := v ++ 0#8, progress := 0, status := .scheduledInitial, reg := v } } :=
    (s.write_dmaReg v).trans (if_neg hv)
  have hc₀ : s₀.Canonical := hc.write _ _
  clear_value s₀
  have hsrc : s₀.dma.src = v ++ 0#8 := by rw [hw]
  have hst : s₀.dma.status = .scheduledInitial := by rw [hw]
  have hcopied : ∀ {n}, n ≤ 160 → DmaCopied s₀ (State.dmaTick^[n + 2] s₀) n :=
    dmaCopied_iterate hc₀ (by rw [hw]; exact hnull) hst (by rw [hw]) (by rw [hsrc]; exact lo_cat v 0)
  obtain ⟨-, -, hend, -, -, hread⟩ : DmaCopied s₀ (State.dmaTick^[162] s₀) 160 := hcopied le_rfl
  refine ⟨fun n hn => ?_, hend.trans (if_pos rfl), fun k hk => ?_, fun a ha => ?_⟩
  · match n with
    | 0 => simp [hst]
    | 1 => simp [State.dmaTick_of_scheduledInitial hst]
    | n + 2 =>
      rw [(hcopied (n := n) (by omega)).status, if_neg (by omega)]
      nofun
  · rw [hread, if_pos (by bv_omega), hsrc, BitVec.add_comm 0xFE00, BitVec.add_sub_cancel]
  · rw [hread, if_neg fun h => ha (State.region_oam_iff.mpr h)]

end Sys2Proof.Machine
end
